-- ==== Sys2Proof/Word.lean ====
section
/-! DEFINITION. The word types of PYI2C-ENGINE (spec/10_state.md R20, R27; spec/30_encoding.md R80). -/

namespace Sys2Proof

/-- A Pin Level (R20): `true` = logic high / released, `false` = logic low / driven. -/
abbrev Level := Bool

/-- Eight bits: a byte on the wire, a register address, a value, an error descriptor. -/
abbrev Byte := BitVec 8

/-- A 7-bit I2C address (R26). -/
abbrev Addr7 := BitVec 7

/-- The 32-bit command word `CW` (R80). -/
abbrev CmdWord := BitVec 32

end Sys2Proof
end

