-- ==== Sys2Proof/Config.lean ====
section
/-! DEFINITION. What the spec leaves open: free values (constants with no body, so that no proof can see what they
are) and the two open time parameters. -/

namespace Sys2Proof

/-- The level the environment gives the data line at the `n`-th `LineRead` of the run, where the state's plan
`envSda` says nothing (spec/20_memory.md R50, spec/92 D29, spec/93 U14: any value; log entry 2). -/
opaque Config.envSda : Nat → Level

/-- The level the environment gives the clock line at the `n`-th poll of the run, where the state's plan `envScl`
says nothing (R50, R53, D29, U14: any value; log entry 2). -/
opaque Config.envScl : Nat → Level

/-- The `n`-th byte whose value the spec leaves unspecified: result and operand latches after reset
(spec/10_state.md R37, U19) and scan-list entries past the count (R31, U20); log entries 3 and 4. -/
opaque Config.freeByte : Nat → Byte

/-- `T_PHASE`, the length of the inter-phase delay (R7, R125, D19, U12): OPEN, and no rule depends on it. -/
opaque Config.tPhase : Nat

/-- `T_STEP`, the least time between two line updates (R7, R177, D20, U13): OPEN, and no rule depends on it. -/
opaque Config.tStep : Nat

end Sys2Proof
end

