-- ==== Sys2Proof/Syntax.lean ====
section
/-! DEFINITION. The eleven commands of the block, one constructor per row of spec/opcode_table.json (R82). -/

namespace Sys2Proof

/-- The command set (spec/30_encoding.md R82). Operand widths are the field widths of R80, R81 and R83, so a
value that does not fit its field cannot be written. -/
inductive Instr where
  /-- `START` (R101) -/
  | start
  /-- `STOP` (R102) -/
  | stop
  /-- `SEND byte` (R103) -/
  | send (byte : Byte)
  /-- `READ` (R104) -/
  | read
  /-- `ACK e` (R105); descriptor 0 is "none supplied" -/
  | ack (e : Byte)
  /-- `SEND_ACK` (R106) -/
  | sendAck
  /-- `SEND_NACK` (R107) -/
  | sendNack
  /-- `SCAN start` (R120) -/
  | scan (first : Byte)
  /-- `WRITE_REG addr, reg, value` (R121) -/
  | writeReg (addr : Addr7) (reg value : Byte)
  /-- `READ_REG addr, reg` (R122) -/
  | readReg (addr : Addr7) (reg : Byte)
  /-- `READ_REG_WORD addr, reg` (R123) -/
  | readRegWord (addr : Addr7) (reg : Byte)
  deriving DecidableEq, Repr

end Sys2Proof
end

