-- ==== Sys2Proof/Machine/State.lean ====
section
/-! DEFINITION. The state of the block (spec/10_state.md R20 to R39), the reasons a step can stop, and the state
after reset (R37). Fields marked MODEL are not the block's: they hold the environment's and the host's inputs, the
trace (R66) and the counters of free values. -/

namespace Sys2Proof.Machine

/-- An event of the trace (spec/20_memory.md R66). -/
inductive Event where
  /-- `Wr(d, c)`: one line write, data level then clock level (R51). -/
  | wr (d c : Level)
  /-- `Sm(v)`: one sample of the data line and its value (R52). -/
  | sm (v : Level)
  /-- `Dl`: one inter-phase delay (R125). -/
  | dl
  deriving DecidableEq, Repr

/-- `CAUSE`, how the last command ended (R32, R36, R145). Code 3 is never produced. -/
inductive Cause where
  /-- 0: any legal command but a `SCAN` with no responder; reset. -/
  | ok
  /-- 1: a `SCAN` that found nobody (R142). -/
  | noDevice
  /-- 2: an illegal command word (R144). -/
  | illegalCommand
  deriving DecidableEq, Repr

/-- `SEQ`, the sequencer position (R34). -/
inductive Seq where
  /-- No command in progress: `BUSY = 0`. -/
  | idle
  /-- Command `cmd` in progress with `k` micro-operations done. `waiting`: micro-operation `k` has written its
  lines and its `ClockWait` has not returned (R53, R54). `samples`: the samples this command has taken, oldest
  first, which are what the rules' local names `v`, `r`, `t`, `ok` are computed from (log entry 6). -/
  | running (cmd : Instr) (k : Nat) (waiting : Bool) (samples : List Level)
  deriving DecidableEq, Repr

/-- The machine. -/
structure State where
  /-- `SDA_OUT`, the level last commanded on the data line (R21). -/
  sdaOut : Level
  /-- `SCL_OUT`, the level last commanded on the clock line (R21). -/
  sclOut : Level
  /-- `ERR`, the flag of the Transaction Error State (R23). -/
  err : Bool
  /-- `ERRMSG`, its message; 0 is "no message" (R24). -/
  errmsg : Byte
  /-- `OPC`, operand latch (R29). -/
  opc : BitVec 4
  /-- `A`, operand latch (R29). -/
  latA : Byte
  /-- `B`, operand latch (R29). -/
  latB : Byte
  /-- `C`, operand latch (R29). -/
  latC : Byte
  /-- `SEQ` (R34); `BUSY` is `SEQ ≠ idle` (R34, R35). -/
  seq : Seq
  /-- `CAUSE` (R32, R36). -/
  cause : Cause
  /-- `ACKR`, result latch of `ACK` (R30). -/
  ackr : Bool
  /-- `RXD0`, result latch (R30). -/
  rxd0 : Byte
  /-- `RXD1`, result latch (R30). -/
  rxd1 : Byte
  /-- `SCANCNT`, 0 to 8 (R31). -/
  scancnt : BitVec 4
  /-- `SCANLIST[0..7]` (R31). -/
  scanlist : Vector Byte 8
  /-- MODEL: the reset input, asserted for the next step (R160, R161; log entry 8). -/
  rstIn : Bool
  /-- MODEL: the words the host will present on the command port, in order. The head is `CW` with `cmd_valid = 1`;
  none is `cmd_valid = 0` (R88; log entry 7). -/
  port : List CmdWord
  /-- MODEL: the environment's plan for the data line: entry `n` is `env_sda` at the `n`-th `LineRead` (R50, D29;
  log entry 2). -/
  envSda : List Level
  /-- MODEL: the environment's plan for the clock line: entry `n` is `env_scl` at the `n`-th poll (R50, R53, D29;
  log entry 2). -/
  envScl : List Level
  /-- MODEL: how many `LineRead`s have been made. -/
  sdaReads : Nat
  /-- MODEL: how many polls of the clock line have been made. -/
  sclPolls : Nat
  /-- MODEL: how many free bytes have been drawn (log entry 3). -/
  freeNext : Nat
  /-- MODEL: the trace since reset, oldest event first (R66). -/
  trace : List Event
  deriving DecidableEq, Repr

/-- Reasons to stop with a fault: none. The spec gives every 32-bit word an effect (R84: "no encoding whose
behaviour is left undefined") and none of its four conditions stops the machine (R140): an acknowledge failure is a
flag, `NO_DEVICE` and `ILLEGAL_COMMAND` are completions, and `BUS_STUCK` is a wait that goes on. -/
inductive Fault where
  deriving DecidableEq, Repr

/-- Reasons to have no meaning. Only `exec`'s arms for instructions not yet modelled raise the one constructor, and
there are none; raising it would be safe. -/
inductive Refusal where
  /-- Raised by an arm of `exec` whose instruction has no meaning yet; safe. -/
  | notModelled (mnemonic : String)
  deriving DecidableEq, Repr

/-! ## One update per field or group of fields that the rules write together -/

/-- Command both lines at once and record the write (R51, R55). -/
def State.setLines (s : State) (d c : Level) : State :=
  { s with sdaOut := d, sclOut := c, trace := s.trace ++ [.wr d c] }

/-- Record one sample of value `v` (R52). -/
def State.addSample (s : State) (v : Level) : State :=
  { s with sdaReads := s.sdaReads + 1, trace := s.trace ++ [.sm v] }

/-- Count one poll of the clock line; polls are no event (R53). -/
def State.addPoll (s : State) : State := { s with sclPolls := s.sclPolls + 1 }

/-- Record one inter-phase delay (R125). -/
def State.addDelay (s : State) : State := { s with trace := s.trace ++ [.dl] }

/-- Write the Transaction Error State (R23). -/
def State.setError (s : State) (flag : Bool) (msg : Byte) : State := { s with err := flag, errmsg := msg }

/-- Move the sequencer (R34). -/
def State.setSeq (s : State) (q : Seq) : State := { s with seq := q }

/-- Write `CAUSE` (R36). -/
def State.setCause (s : State) (c : Cause) : State := { s with cause := c }

/-- Write `ACKR` (R30). -/
def State.setAckr (s : State) (b : Bool) : State := { s with ackr := b }

/-- Write `RXD0` (R30). -/
def State.setRxd0 (s : State) (b : Byte) : State := { s with rxd0 := b }

/-- Write `RXD1` (R30). -/
def State.setRxd1 (s : State) (b : Byte) : State := { s with rxd1 := b }

/-- Write the whole Device Address List (R31), having drawn eight free bytes for it. -/
def State.setScan (s : State) (n : BitVec 4) (list : Vector Byte 8) : State :=
  { s with scancnt := n, scanlist := list, freeNext := s.freeNext + 8 }

/-- Load the operand latches, all at once (R29, R88). -/
def State.setLatches (s : State) (opc : BitVec 4) (a b c : Byte) : State :=
  { s with opc := opc, latA := a, latB := b, latC := c }

/-- Replace the words the host will present. -/
def State.setPort (s : State) (words : List CmdWord) : State := { s with port := words }

/-! ## Reset values (R37) -/

/-- How many free bytes a reset draws: one for each latch whose reset value is "unspecified". -/
def freePerReset : Nat := 15

/-- The block's own state at the reset values of R37 with an empty trace (R160), and inputs that say nothing. The
latches R37 calls "unspecified" hold the free bytes `n`, `n + 1`, … (log entry 3). -/
def resetValues (n : Nat) : State where
  sdaOut := true
  sclOut := true
  err := false
  errmsg := 0
  opc := (Config.freeByte (n + 11)).setWidth 4
  latA := Config.freeByte (n + 12)
  latB := Config.freeByte (n + 13)
  latC := Config.freeByte (n + 14)
  seq := .idle
  cause := .ok
  ackr := (Config.freeByte n).getLsbD 0
  rxd0 := Config.freeByte (n + 1)
  rxd1 := Config.freeByte (n + 2)
  scancnt := 0
  scanlist :=
    #v[Config.freeByte (n + 3), Config.freeByte (n + 4), Config.freeByte (n + 5), Config.freeByte (n + 6),
      Config.freeByte (n + 7), Config.freeByte (n + 8), Config.freeByte (n + 9), Config.freeByte (n + 10)]
  rstIn := false
  port := []
  envSda := []
  envScl := []
  sdaReads := 0
  sclPolls := 0
  freeNext := n + freePerReset
  trace := []

/-- The machine right after power-up reset (R37, R160). -/
def State.reset : State := resetValues 0

end Sys2Proof.Machine
end

