-- ==== Sys2Proof/Machine/Flags.lean ====
section
/-! DEFINITION. The flag computations: the outcome of `ack` (spec/41_protocol_engine.md R105), the `CAUSE` codes
(R145), `BUSY` (R34, R35) and the layout of `STATUS` (R32). -/

namespace Sys2Proof.Machine

/-- What `ack` returns: acknowledged exactly when the sample is 0 (R105). -/
def ackOk (v : Level) : Bool := v == false

/-- `ERR` after `ack(e)` that sampled `v` (R105): set by a not-acknowledge with a description, else cleared. -/
def errAfterAck (e : Byte) (v : Level) : Bool := !ackOk v && e != 0

/-- `ERRMSG` after `ack(e)` that sampled `v` (R105). -/
def errmsgAfterAck (e : Byte) (v : Level) : Byte := if errAfterAck e v then e else 0

/-- The 2-bit code of `CAUSE` (R32, R145). -/
def Cause.code : Cause → BitVec 2
  | .ok => 0
  | .noDevice => 1
  | .illegalCommand => 2

/-- How a `SCAN` with these responders ends (R120, R142). -/
def scanCause (found : List Byte) : Cause := if found.isEmpty then .noDevice else .ok

/-- `BUSY`: 1 exactly while `SEQ` is not idle (R34, R35). -/
def State.busy (s : State) : Bool := s.seq != .idle

/-- `STATUS` (R32): bits 7:5 zero, 4:3 `CAUSE`, 2 `ACKR`, 1 `ERR`, 0 `BUSY`. -/
def State.status (s : State) : Byte :=
  0#3 ++ s.cause.code ++ BitVec.ofBool s.ackr ++ BitVec.ofBool s.err ++ BitVec.ofBool s.busy

/-- `LINES` (R33): bits 7:2 zero, 1 `SCL_OUT`, 0 `SDA_OUT`. -/
def State.lines (s : State) : Byte := 0#6 ++ BitVec.ofBool s.sclOut ++ BitVec.ofBool s.sdaOut

end Sys2Proof.Machine
end

