-- ==== Sys2Proof/WellFormed.lean ====
section
/-! DEFINITION. Which terms of `Instr` are commands the block runs. Every field width is in the type already;
what is left is the one legality bound by value (spec/30_encoding.md R84, spec/42_register_transactions.md R120). -/

namespace Sys2Proof

/-- The largest legal `SCAN` start: its last candidate `start + 14` is 0xFF (R84, R120). -/
def maxScanStart : Byte := 0xF1#8

/-- A command is well formed when it is not a `SCAN` whose last candidate passes 0xFF (R84). -/
def Instr.wf : Instr → Bool
  | .start => true
  | .stop => true
  | .send _ => true
  | .read => true
  | .ack _ => true
  | .sendAck => true
  | .sendNack => true
  | .scan first => decide (first ≤ maxScanStart)
  | .writeReg _ _ _ => true
  | .readReg _ _ => true
  | .readRegWord _ _ => true

end Sys2Proof
end

