-- ==== Sys2Proof/Decode.lean ====
section
/-! DEFINITION. The command word: its fields (R80), decoding with every rejection named (R82, R84), the encoder
(R81, R82), and the opcode table as rows of match and mask (R82). -/

namespace Sys2Proof

/-! ## Fields of the command word (R80) -/

/-- `OPC = CW[31:28]`. -/
def opcField (w : CmdWord) : BitVec 4 := w.extractLsb' 28 4

/-- `Z = CW[27:24]`, reserved, must be zero. -/
def zField (w : CmdWord) : BitVec 4 := w.extractLsb' 24 4

/-- `A = CW[23:16]`. -/
def aField (w : CmdWord) : Byte := w.extractLsb' 16 8

/-- `B = CW[15:8]`. -/
def bField (w : CmdWord) : Byte := w.extractLsb' 8 8

/-- `C = CW[7:0]`. -/
def cField (w : CmdWord) : Byte := w.extractLsb' 0 8

/-- Bit 23, which a 7-bit address leaves zero. -/
def a7High (w : CmdWord) : BitVec 1 := w.extractLsb' 23 1

/-- `A7 = CW[22:16]` (R83). -/
def a7Field (w : CmdWord) : Addr7 := w.extractLsb' 16 7

/-! ## Decoding (R82, R84) -/

/-- Why a word is illegal (R84). -/
inductive DecodeError where
  /-- `OPC` is 0x0 or 0xC to 0xF. -/
  | reservedOpcode
  /-- A bit that the row's format requires to be zero is set (R81). -/
  | mustBeZero
  /-- A `SCAN` whose `A` is above 0xF1. -/
  | scanStartTooHigh
  deriving DecidableEq, Repr

/-- The row's operands are taken when its must-be-zero bits are zero (R81). -/
def accepted (zero : Bool) (i : Instr) : Except DecodeError Instr :=
  if zero then .ok i else .error .mustBeZero

/-- Format `N`: bits 27:0 must be zero. -/
def zeroN (w : CmdWord) : Bool := zField w == 0 && aField w == 0 && bField w == 0 && cField w == 0

/-- Format `C8`: bits 27:8 must be zero. -/
def zeroC8 (w : CmdWord) : Bool := zField w == 0 && aField w == 0 && bField w == 0

/-- Format `A8`: bits 27:24 and 15:0 must be zero. -/
def zeroA8 (w : CmdWord) : Bool := zField w == 0 && bField w == 0 && cField w == 0

/-- Format `A7B`: bits 27:23 and 7:0 must be zero. -/
def zeroA7B (w : CmdWord) : Bool := zField w == 0 && a7High w == 0 && cField w == 0

/-- Format `A7BC`: bits 27:23 must be zero. -/
def zeroA7BC (w : CmdWord) : Bool := zField w == 0 && a7High w == 0

/-- The command a word stands for, or why it is illegal (R82, R84): total on all 2^32 words. -/
def decode (w : CmdWord) : Except DecodeError Instr :=
  match (opcField w).toNat with
  | 1 => accepted (zeroN w) .start
  | 2 => accepted (zeroN w) .stop
  | 3 => accepted (zeroC8 w) (.send (cField w))
  | 4 => accepted (zeroN w) .read
  | 5 => accepted (zeroC8 w) (.ack (cField w))
  | 6 => accepted (zeroN w) .sendAck
  | 7 => accepted (zeroN w) .sendNack
  | 8 =>
    if zeroA8 w && !(Instr.scan (aField w)).wf then .error .scanStartTooHigh
    else accepted (zeroA8 w) (.scan (aField w))
  | 9 => accepted (zeroA7BC w) (.writeReg (a7Field w) (bField w) (cField w))
  | 10 => accepted (zeroA7B w) (.readReg (a7Field w) (bField w))
  | 11 => accepted (zeroA7B w) (.readRegWord (a7Field w) (bField w))
  | _ => .error .reservedOpcode

/-- The host's view of `decode`: the command in a table row's word, whose bits above `nbits` are zero. The block
has one length, 32 bits (R80, R86), so a longer row decodes to nothing. -/
def decodeTableWord (nbits w : Nat) : Option Instr :=
  if 32 < nbits then none
  else
    match decode (BitVec.ofNat 32 (w % 2 ^ nbits)) with
    | .ok i => some i
    | .error _ => none

/-! ## Encoding (R80, R81, R82) -/

/-- The word with the given fields, high field first (R80). -/
def packWord (opc z : BitVec 4) (a b c : Byte) : CmdWord := opc ++ z ++ a ++ b ++ c

/-- A 7-bit address in the 8-bit `A` field, bit 23 zero (R80). -/
def a7Operand (addr : Addr7) : Byte := addr.setWidth 8

/-- The opcode of each command (R82). -/
def opcodeOf : Instr → BitVec 4
  | .start => 0x1
  | .stop => 0x2
  | .send _ => 0x3
  | .read => 0x4
  | .ack _ => 0x5
  | .sendAck => 0x6
  | .sendNack => 0x7
  | .scan _ => 0x8
  | .writeReg _ _ _ => 0x9
  | .readReg _ _ => 0xA
  | .readRegWord _ _ => 0xB

/-- The word of a command, from the formats of R81 and the opcodes of R82. -/
def encode (i : Instr) : CmdWord :=
  match i with
  | .start => packWord (opcodeOf i) 0 0 0 0
  | .stop => packWord (opcodeOf i) 0 0 0 0
  | .send byte => packWord (opcodeOf i) 0 0 0 byte
  | .read => packWord (opcodeOf i) 0 0 0 0
  | .ack e => packWord (opcodeOf i) 0 0 0 e
  | .sendAck => packWord (opcodeOf i) 0 0 0 0
  | .sendNack => packWord (opcodeOf i) 0 0 0 0
  | .scan first => packWord (opcodeOf i) 0 first 0 0
  | .writeReg addr reg value => packWord (opcodeOf i) 0 (a7Operand addr) reg value
  | .readReg addr reg => packWord (opcodeOf i) 0 (a7Operand addr) reg 0
  | .readRegWord addr reg => packWord (opcodeOf i) 0 (a7Operand addr) reg 0

/-! ## The opcode table as printed (R82) -/

/-- The match and the mask of a command's row in the opcode map (R82), copied from the table and not used by
`decode`: the statements hold the one against the other. -/
def tableRow : Instr → CmdWord × CmdWord
  | .start => (0x10000000, 0xFFFFFFFF)
  | .stop => (0x20000000, 0xFFFFFFFF)
  | .send _ => (0x30000000, 0xFFFFFF00)
  | .read => (0x40000000, 0xFFFFFFFF)
  | .ack _ => (0x50000000, 0xFFFFFF00)
  | .sendAck => (0x60000000, 0xFFFFFFFF)
  | .sendNack => (0x70000000, 0xFFFFFFFF)
  | .scan _ => (0x80000000, 0xFF00FFFF)
  | .writeReg _ _ _ => (0x90000000, 0xFF800000)
  | .readReg _ _ => (0xA0000000, 0xFF8000FF)
  | .readRegWord _ _ => (0xB0000000, 0xFF8000FF)

/-- The eleven rows of the opcode map (R82), match and mask, in the table's order. -/
def tableRows : List (CmdWord × CmdWord) :=
  [Instr.start, .stop, .send 0, .read, .ack 0, .sendAck, .sendNack, .scan 0, .writeReg 0 0 0, .readReg 0 0,
    .readRegWord 0 0].map tableRow

/-- A word selects a row when `CW and mask = match` (R82). -/
def selectsRow (w : CmdWord) (row : CmdWord × CmdWord) : Bool := (w &&& row.2) == row.1

end Sys2Proof
end

