-- ==== Sys2Proof/Machine/Operands.lean ====
section
/-! DEFINITION. Everything the commands compute from their operands and from the bits they sample
(spec/43_arithmetic_control_system.md R130), and the numbers the rules use (spec/00_scope.md R7). -/

namespace Sys2Proof.Machine

/-! ## Numbers of the rules -/

/-- `SCAN_COUNT`: eight candidates (R7, R120, D13). -/
def scanCount : Nat := 8

/-- `SCAN_STEP` (R7, R120). -/
def scanStep : Nat := 2

/-- `WR_TERMINATOR`, the fourth byte of `WRITE_REG` (R7, R121). -/
def wrTerminator : Byte := 0x00

/-- `E_ADDR_W` (R126). -/
def eAddrW : Byte := 1

/-- `E_REG` (R126). -/
def eReg : Byte := 2

/-- `E_VALUE` (R126). -/
def eValue : Byte := 3

/-- `E_TERM` (R126). -/
def eTerm : Byte := 4

/-- `E_ADDR_R` (R126). -/
def eAddrR : Byte := 5

/-! ## Wire bytes -/

/-- The direction bit `WRITE` (R85). -/
def dirWrite : BitVec 1 := 0

/-- The direction bit `READ` (R85). -/
def dirRead : BitVec 1 := 1

/-- The address byte on the wire, address in bits 7:1 and direction in bit 0 (R85). -/
def wireAddr (addr : Addr7) (dir : BitVec 1) : Byte := addr ++ dir

/-- The `k`-th candidate of a scan (R120, R130). -/
def scanCandidate (first : Byte) (k : Nat) : Byte := first + BitVec.ofNat 8 (scanStep * k)

/-- The byte a scan puts on the wire for a candidate: the candidate as it stands (R85, R120, U18). -/
def scanByte (candidate : Byte) : Byte := candidate

/-- The candidates of a scan in probing order (R120). -/
def scanCandidates (first : Byte) : List Byte := (List.range scanCount).map (scanCandidate first)

/-! ## Bits -/

/-- The bits of a byte in wire order, bit 7 first (R60, R103). -/
def wireBits (b : Byte) : List Level :=
  [b.getLsbD 7, b.getLsbD 6, b.getLsbD 5, b.getLsbD 4, b.getLsbD 3, b.getLsbD 2, b.getLsbD 1, b.getLsbD 0]

/-- One turn of `recv`: `r <- (r << 1) | sample` (R130). -/
def shiftIn (r : Byte) (v : Level) : Byte := (r <<< 1) ||| (BitVec.ofBool v).setWidth 8

/-- The byte eight samples make, the first of them bit 7 (R104, R130). -/
def byteOfSamples (samples : List Level) : Byte := samples.foldl shiftIn 0

/-! ## Where the samples of a command stand

`ack` takes one sample and `recv` eight (R109), so the samples of a command fall into these places (R128). -/

/-- The `n`-th sample of a command. -/
def sampleAt (samples : List Level) (n : Nat) : Level := samples.getD n true

/-- The byte received by the `recv` whose first sample is the `n`-th of the command. -/
def byteAt (samples : List Level) (n : Nat) : Byte := byteOfSamples ((samples.drop n).take 8)

/-- How many samples one candidate of a scan takes: its `ack`, then a `recv` (R128). -/
def samplesPerCandidate : Nat := 9

/-! ## The Device Address List (R31, R120) -/

/-- The candidates of a list, the first of which is number `k`, whose `ack` sampled 0, in probing order. -/
def respondersFrom (samples : List Level) : Nat → List Byte → List Byte
  | _, [] => []
  | k, c :: rest =>
    if sampleAt samples (samplesPerCandidate * k) then respondersFrom samples (k + 1) rest
    else c :: respondersFrom samples (k + 1) rest

/-- The responding candidates of a scan, in probing order (R120). -/
def responders (first : Byte) (samples : List Level) : List Byte := respondersFrom samples 0 (scanCandidates first)

/-- Entry `k` of a scan list: a responder, or past the count the free byte number `base + k` (R31, D22, U20; log
entry 4). -/
def scanEntry (found : List Byte) (base k : Nat) : Byte := found.getD k (Config.freeByte (base + k))

/-- The eight entries of `SCANLIST` after a scan (R31). -/
def scanEntries (found : List Byte) (base : Nat) : Vector Byte 8 :=
  #v[scanEntry found base 0, scanEntry found base 1, scanEntry found base 2, scanEntry found base 3,
    scanEntry found base 4, scanEntry found base 5, scanEntry found base 6, scanEntry found base 7]

end Sys2Proof.Machine
end

