-- ==== Sys2Proof/Machine/Ops.lean ====
section
/-! DEFINITION. The named operations: the line primitives (spec/20_memory.md R50 to R54), the micro-operations and how
one is attempted, the completion of a command, the illegal command (R144), reset (R160, R161), acceptance of a
word (R88) and the host's register reads (R33). -/

namespace Sys2Proof.Machine

/-! ## The environment (R50, R153) -/

/-- `env_sda` at the `n`-th `LineRead`: the plan's entry, or a free level where the plan ends (D29, U14). -/
def State.envSdaAt (s : State) (n : Nat) : Level := s.envSda.getD n (Config.envSda n)

/-- `env_scl` at the `n`-th poll: the plan's entry, or a free level where the plan ends (D29, U14). -/
def State.envSclAt (s : State) (n : Nat) : Level := s.envScl.getD n (Config.envScl n)

/-- What the environment gives the data line at the `j`-th `LineRead` from now (0: the next one). -/
def State.sdaAnswer (s : State) (j : Nat) : Level := s.envSdaAt (s.sdaReads + j)

/-- What the environment gives the clock line at the `j`-th poll from now (0: the next one). -/
def State.sclAnswer (s : State) (j : Nat) : Level := s.envSclAt (s.sclPolls + j)

/-- `sda_level` at the next sample: this block's level and the environment's (R50). -/
def State.sdaLevel (s : State) : Level := s.sdaOut && s.sdaAnswer 0

/-- `scl_level` at the next poll (R50). -/
def State.sclLevel (s : State) : Level := s.sclOut && s.sclAnswer 0

/-! ## The line primitives -/

/-- `LineWrite(d, c)` (R51): both lines in one update (R55), one event; it reads nothing and cannot fail. -/
def lineWrite (d c : Level) (s : State) : State := s.setLines d c

/-- `LineRead()` (R52): the sampled level, and the state with the sample recorded; no state of the block and no
line changes. -/
def lineRead (s : State) : Level × State := (s.sdaLevel, s.addSample s.sdaLevel)

/-- `Delay(T_PHASE)` (R125): one event and nothing else. -/
def delay (s : State) : State := s.addDelay

/-- The decision at the end of `ack(e)` that sampled `v`: the only writer of the Transaction Error State but reset
(R23, R105). -/
def recordAck (e : Byte) (v : Level) (s : State) : State := s.setError (errAfterAck e v) (errmsgAfterAck e v)

/-! ## Micro-operations (R34) -/

/-- A micro-operation. `ackEnd e` is the last line update of `ack(e)`, `W(1, 0)`, on whose completion `ack`
decides (R105). -/
inductive MicroOp where
  /-- `W(d, c)` (R54). -/
  | w (d c : Level)
  /-- `S()` (R52). -/
  | s
  /-- `W(1, 0)`, then the decision of `ack(e)` (R105). -/
  | ackEnd (e : Byte)
  /-- `Delay(T_PHASE)` (R125). -/
  | delay
  deriving DecidableEq, Repr

/-- What an attempt at a micro-operation comes to: it is done, with the samples taken so far, or it is held in
`ClockWait` (R53). -/
inductive Progress where
  | done (samples : List Level) (s : State)
  | held (s : State)
  deriving DecidableEq, Repr

/-- One poll of `ClockWait` (R53): done when the clock line reads 1, else held. -/
def pollClock (samples : List Level) (s : State) : Progress :=
  if s.sclLevel then .done samples s.addPoll else .held s.addPoll

/-- A micro-operation from its beginning, as far as the first poll of its `ClockWait` (R51 to R54, R105, R125). -/
def perform (op : MicroOp) (samples : List Level) (s : State) : Progress :=
  match op with
  | .w d c => if c then pollClock samples (lineWrite d c s) else .done samples (lineWrite d c s)
  | .s => .done (samples ++ [(lineRead s).1]) (lineRead s).2
  | .ackEnd e => .done samples (recordAck e (samples.getLastD true) (lineWrite true false s))
  | .delay => .done samples (delay s)

/-- A micro-operation from where it stands: one that waits only polls again, its write is not repeated (R53). -/
def attempt (op : MicroOp) (waiting : Bool) (samples : List Level) (s : State) : Progress :=
  if waiting then pollClock samples s else perform op samples s

/-! ## Completion and illegal commands -/

/-- A command completes: `CAUSE` is written and `BUSY` falls, in one step with the results (R35, R36, R135). -/
def complete (cause : Cause) (s : State) : State := (s.setCause cause).setSeq .idle

/-- `ILLEGAL_COMMAND` (R84, R144): nothing on the bus, `CAUSE <- 2`, complete at once. -/
def illegalCommand (s : State) : State := complete .illegalCommand s

/-! ## Reset (R160, R161) -/

/-- Reset: every piece of the block's state at its reset value, whatever was in progress, and an empty trace; the
environment's and the host's plans go on, and the reset input is spent. -/
def applyReset (s : State) : State :=
  { resetValues s.freeNext with
    port := s.port, envSda := s.envSda, envScl := s.envScl, sdaReads := s.sdaReads, sclPolls := s.sclPolls }

/-! ## The command port and the register port -/

/-- `cmd_ready` (R88). -/
def State.cmdReady (s : State) : Bool := !s.busy

/-- `cmd_valid` (R88). -/
def State.cmdValid (s : State) : Bool := !s.port.isEmpty

/-- Acceptance (R88, R135): the word is taken from the port and its fields are latched, legal or not (log entry 5). -/
def accept (w : CmdWord) (rest : List CmdWord) (s : State) : State :=
  (s.setPort rest).setLatches (opcField w) (aField w) (bField w) (cField w)

/-- What the host reads at register number `n` (R33): a pure view, so a read has no side effect; an unlisted number
reads zero. -/
def State.hostRead (s : State) (n : Nat) : Byte :=
  match n with
  | 0 => s.status
  | 1 => s.errmsg
  | 2 => s.rxd0
  | 3 => s.rxd1
  | 4 => 0#4 ++ s.scancnt
  | 5 => s.scanlist[0]
  | 6 => s.scanlist[1]
  | 7 => s.scanlist[2]
  | 8 => s.scanlist[3]
  | 9 => s.scanlist[4]
  | 10 => s.scanlist[5]
  | 11 => s.scanlist[6]
  | 12 => s.scanlist[7]
  | 13 => s.lines
  | _ => 0

/-- The pin outputs `sda_o`, `scl_o` (R56): 1 = pad disabled, 0 = pad drives low. -/
def State.pinsOut (s : State) : Level × Level := (s.sdaOut, s.sclOut)

end Sys2Proof.Machine
end

