-- ==== Sys2Proof/Machine/Sequences.lean ====
section
/-! DEFINITION. The micro-operation lists: the seven procedures of the protocol engine
(spec/41_protocol_engine.md R101 to R107) and the chains of the four transactions
(spec/42_register_transactions.md R120 to R123), each as its rule writes it. -/

namespace Sys2Proof.Machine

/-! ## The procedures -/

/-- `start()` (R101). -/
def startOps : List MicroOp := [.w true true, .w false true, .w false false]

/-- `stop()` (R102). -/
def stopOps : List MicroOp := [.w false false, .w false true, .w true true]

/-- One turn of `send` for data bit `d` (R103). -/
def sendBitOps (d : Level) : List MicroOp := [.w d false, .w d true, .w d false]

/-- `send(b)` (R103): eight turns, most significant bit first. -/
def sendOps (b : Byte) : List MicroOp := (wireBits b).flatMap sendBitOps

/-- One turn of `recv` (R104). -/
def recvBitOps : List MicroOp := [.w true false, .w true true, .s, .w true false]

/-- `recv()` (R104): eight turns; the samples make the byte (`byteOfSamples`). -/
def recvOps : List MicroOp := (List.replicate 8 recvBitOps).flatten

/-- `ack(e)` (R105). -/
def ackOps (e : Byte) : List MicroOp := [.w true false, .w true true, .s, .ackEnd e]

/-- `send_ack()` (R106). -/
def sendAckOps : List MicroOp := [.w false false, .w false true, .w false false]

/-- `send_nack()` (R107). -/
def sendNackOps : List MicroOp := [.w true false, .w true true, .w true false, .w false false]

/-! ## The transactions -/

/-- The probe of one scan candidate (R120). -/
def probeOps (c : Byte) : List MicroOp :=
  startOps ++ sendOps (scanByte c) ++ ackOps 0 ++ recvOps ++ sendNackOps ++ stopOps

/-- `SCAN` (R120): all candidates, each probed whole. -/
def scanOps (first : Byte) : List MicroOp := (scanCandidates first).flatMap probeOps

/-- `WRITE_REG` (R121). -/
def writeRegOps (addr : Addr7) (reg value : Byte) : List MicroOp :=
  startOps ++ sendOps (wireAddr addr dirWrite) ++ ackOps eAddrW ++ sendOps reg ++ ackOps eReg ++
    sendOps value ++ ackOps eValue ++ sendOps wrTerminator ++ ackOps eTerm ++ stopOps

/-- Phase 1 of the two reads: the register address is written (R122, R123). -/
def readPhase1Ops (addr : Addr7) (reg : Byte) : List MicroOp :=
  startOps ++ sendOps (wireAddr addr dirWrite) ++ ackOps eAddrW ++ sendOps reg ++ ackOps eReg ++ stopOps

/-- The opening of phase 2 of the two reads (R122, R123). -/
def readPhase2Ops (addr : Addr7) : List MicroOp :=
  startOps ++ sendOps (wireAddr addr dirRead) ++ ackOps eAddrR

/-- `READ_REG` (R122). -/
def readRegOps (addr : Addr7) (reg : Byte) : List MicroOp :=
  readPhase1Ops addr reg ++ [.delay] ++ readPhase2Ops addr ++ recvOps ++ sendNackOps ++ stopOps

/-- `READ_REG_WORD` (R123). -/
def readRegWordOps (addr : Addr7) (reg : Byte) : List MicroOp :=
  readPhase1Ops addr reg ++ [.delay] ++ readPhase2Ops addr ++ recvOps ++ sendAckOps ++ recvOps ++ sendNackOps ++
    stopOps

end Sys2Proof.Machine
end

