-- ==== Sys2Proof/Machine/Sequencer.lean ====
section
/-! DEFINITION. The sequencer: what each command's list of micro-operations is (R34), what it stores when it
completes (R30, R31, R36, R108, R120 to R123), and how a command runs, is held in `ClockWait` and goes on
(R53, R143, R135). -/

namespace Sys2Proof.Machine

/-- The micro-operations of a command (R34: a fixed, finite list that depends only on the operands). -/
def opsOf : Instr → List MicroOp
  | .start => startOps
  | .stop => stopOps
  | .send byte => sendOps byte
  | .read => recvOps
  | .ack e => ackOps e
  | .sendAck => sendAckOps
  | .sendNack => sendNackOps
  | .scan first => scanOps first
  | .writeReg addr reg value => writeRegOps addr reg value
  | .readReg addr reg => readRegOps addr reg
  | .readRegWord addr reg => readRegWordOps addr reg

/-- `READ` stores its byte (R108). -/
def finishRead (samples : List Level) (s : State) : State := complete .ok (s.setRxd0 (byteAt samples 0))

/-- `ACK` stores what `ack` returned (R108). -/
def finishAck (samples : List Level) (s : State) : State := complete .ok (s.setAckr (ackOk (sampleAt samples 0)))

/-- `SCAN` stores the responding candidates, in probing order, and their number; `CAUSE` says whether there were
none (R31, R120, R142). -/
def finishScan (first : Byte) (samples : List Level) (s : State) : State :=
  let found := responders first samples
  complete (scanCause found) (s.setScan (BitVec.ofNat 4 found.length) (scanEntries found s.freeNext))

/-- `READ_REG` stores its byte; the samples before it are three `ack`s (R122, R128). -/
def finishReadReg (samples : List Level) (s : State) : State := complete .ok (s.setRxd0 (byteAt samples 3))

/-- `READ_REG_WORD` stores its two bytes in the order received; the samples before them are three `ack`s
(R123, R128, D21). -/
def finishReadRegWord (samples : List Level) (s : State) : State :=
  complete .ok ((s.setRxd0 (byteAt samples 3)).setRxd1 (byteAt samples 11))

/-- What a command does when its last micro-operation has completed: results, `CAUSE` and `BUSY`, all at once
(R35, R108). -/
def finish (i : Instr) (samples : List Level) (s : State) : State :=
  match i with
  | .start => complete .ok s
  | .stop => complete .ok s
  | .send _ => complete .ok s
  | .read => finishRead samples s
  | .ack _ => finishAck samples s
  | .sendAck => complete .ok s
  | .sendNack => complete .ok s
  | .scan first => finishScan first samples s
  | .writeReg _ _ _ => complete .ok s
  | .readReg _ _ => finishReadReg samples s
  | .readRegWord _ _ => finishReadRegWord samples s

/-- Run the rest of command `i`, whose `k`-th micro-operation heads the list, until the command completes or a
`ClockWait` is held: then `SEQ` stands at that micro-operation (R34, R53). -/
def runOps (i : Instr) : List MicroOp → Nat → Bool → List Level → State → State
  | [], _, _, samples, s => finish i samples s
  | op :: ops, k, waiting, samples, s =>
    match attempt op waiting samples s with
    | .held s' => s'.setSeq (.running i k true samples)
    | .done samples' s' => runOps i ops (k + 1) false samples' s'

/-- Run command `i` from its first micro-operation. -/
def runCommand (i : Instr) (s : State) : State := runOps i (opsOf i) 0 false [] s

/-- Go on with the command in progress from where `SEQ` stands (R143: "as if nothing had happened"). -/
def resume (s : State) : State :=
  match s.seq with
  | .idle => s
  | .running i k waiting samples => runOps i ((opsOf i).drop k) k waiting samples s

/-- One attempt at one micro-operation of the command in progress (R34): `k` advances when it completes, and after
the last one the command does. -/
def advance (s : State) : State :=
  match s.seq with
  | .idle => s
  | .running i k waiting samples =>
    match (opsOf i)[k]? with
    | none => finish i samples s
    | some op =>
      match attempt op waiting samples s with
      | .held s' => s'.setSeq (.running i k true samples)
      | .done samples' s' =>
        if k + 1 < (opsOf i).length then s'.setSeq (.running i (k + 1) false samples') else finish i samples' s'

/-- A command at its beginning: `BUSY <- 1`, no micro-operation done (R35, R88). -/
def beginCommand (i : Instr) (s : State) : State := s.setSeq (.running i 0 false [])

end Sys2Proof.Machine
end

