-- ==== Sys2Proof/Machine/Engine.lean ====
section
/-! DEFINITION. The meanings of the seven commands of the bit-level protocol engine
(spec/41_protocol_engine.md R101 to R108). Each runs its procedure once; a clock that the environment holds low
leaves the command in progress (`BUSY = 1`) and a later step goes on with it. -/

namespace Sys2Proof.Machine

/-- `START` (R101): `start()`; `CAUSE <- 0`. -/
def execStart (s : State) : Host.Outcome State Fault Refusal := .next (runCommand .start s)

/-- `STOP` (R102): `stop()`; `CAUSE <- 0`. -/
def execStop (s : State) : Host.Outcome State Fault Refusal := .next (runCommand .stop s)

/-- `SEND byte` (R103): `send(C)`; `CAUSE <- 0`. -/
def execSend (byte : Byte) (s : State) : Host.Outcome State Fault Refusal := .next (runCommand (.send byte) s)

/-- `READ` (R104): `RXD0 <- recv()`; `CAUSE <- 0`. -/
def execRead (s : State) : Host.Outcome State Fault Refusal := .next (runCommand .read s)

/-- `ACK e` (R105): `ACKR <- ack(e)`, with `ERR` and `ERRMSG` written by `ack`; `CAUSE <- 0`. -/
def execAck (e : Byte) (s : State) : Host.Outcome State Fault Refusal := .next (runCommand (.ack e) s)

/-- `SEND_ACK` (R106): `send_ack()`; `CAUSE <- 0`. -/
def execSendAck (s : State) : Host.Outcome State Fault Refusal := .next (runCommand .sendAck s)

/-- `SEND_NACK` (R107): `send_nack()`; `CAUSE <- 0`. -/
def execSendNack (s : State) : Host.Outcome State Fault Refusal := .next (runCommand .sendNack s)

end Sys2Proof.Machine
end

