-- ==== Sys2Proof/Machine/Transactions.lean ====
section
/-! DEFINITION. The meanings of the four commands of the register-transaction sequencer
(spec/42_register_transactions.md R120 to R123). No transaction stops early (R124). -/

namespace Sys2Proof.Machine

/-- `SCAN start` (R120): eight probes, then the list, its count and `CAUSE`. A start above 0xF1, which no legal
word carries, is `ILLEGAL_COMMAND` (R84, R135). -/
def execScan (first : Byte) (s : State) : Host.Outcome State Fault Refusal :=
  if (Instr.scan first).wf then .next (runCommand (.scan first) s) else .next (illegalCommand s)

/-- `WRITE_REG addr, reg, value` (R121): four bytes, each followed by its `ack`; no result latch. -/
def execWriteReg (addr : Addr7) (reg value : Byte) (s : State) : Host.Outcome State Fault Refusal :=
  .next (runCommand (.writeReg addr reg value) s)

/-- `READ_REG addr, reg` (R122): two frames with the delay between them; `RXD0`. -/
def execReadReg (addr : Addr7) (reg : Byte) (s : State) : Host.Outcome State Fault Refusal :=
  .next (runCommand (.readReg addr reg) s)

/-- `READ_REG_WORD addr, reg` (R123): two frames with the delay between them; `RXD0` and `RXD1`. -/
def execReadRegWord (addr : Addr7) (reg : Byte) (s : State) : Host.Outcome State Fault Refusal :=
  .next (runCommand (.readRegWord addr reg) s)

end Sys2Proof.Machine
end

