-- ==== Sys2Proof/Machine/Dispatch.lean ====
section
/-! DEFINITION. One arm per command (spec/43_arithmetic_control_system.md R135). -/

namespace Sys2Proof.Machine

def exec (i : Instr) (s : State) : Host.Outcome State Fault Refusal :=
  match i with
  | .start => Sys2Proof.Machine.execStart s
  | .stop => Sys2Proof.Machine.execStop s
  | .send byte => Sys2Proof.Machine.execSend byte s
  | .read => Sys2Proof.Machine.execRead s
  | .ack e => Sys2Proof.Machine.execAck e s
  | .sendAck => Sys2Proof.Machine.execSendAck s
  | .sendNack => Sys2Proof.Machine.execSendNack s
  | .scan first => Sys2Proof.Machine.execScan first s
  | .writeReg addr reg value => Sys2Proof.Machine.execWriteReg addr reg value s
  | .readReg addr reg => Sys2Proof.Machine.execReadReg addr reg s
  | .readRegWord addr reg => Sys2Proof.Machine.execReadRegWord addr reg s

end Sys2Proof.Machine
end

