-- ==== Sys2Proof/Machine/Step.lean ====
section
/-! DEFINITION. One step of the block's loop (spec/43_arithmetic_control_system.md R135): one command, run until it
completes or the clock holds it; or one poll of a held clock and, when it is released, the rest of the command. -/

namespace Sys2Proof.Machine

/-- One step. A reset input wins over everything (R161). A command in progress goes on, and no word is taken
(R88). An idle block takes the presented word, runs it or completes it as illegal (R84, R135), and with no word
presented does nothing (R4). -/
def step (s : State) : Host.Outcome State Fault Refusal :=
  if s.rstIn then .next (applyReset s)
  else
    match s.seq with
    | .running _ _ _ _ => .next (resume s)
    | .idle =>
      match s.port with
      | [] => .next s
      | w :: rest =>
        match decode w with
        | .error _ => .next (illegalCommand (accept w rest s))
        | .ok i => exec i (accept w rest s)

/-- R135's other step, one micro-operation at a time: reset, or one attempt at the next micro-operation of the
command in progress, or acceptance of the presented word. It shows the states inside a command, at each of which the
host may read a register (R33, R172) or assert reset (R161); the statements hold `step` against it. -/
def microStep (s : State) : State :=
  if s.rstIn then applyReset s
  else
    match s.seq with
    | .running _ _ _ _ => advance s
    | .idle =>
      match s.port with
      | [] => s
      | w :: rest =>
        match decode w with
        | .error _ => illegalCommand (accept w rest s)
        | .ok i => beginCommand i (accept w rest s)

/-- `s` with a table row's word presented on the command port, ahead of what the host will present later, the
block idle and no reset asserted, so that the next step takes and runs it (log entry 9). -/
def State.withFetchWord (s : State) (nbits w : Nat) : State :=
  { s with port := BitVec.ofNat 32 (w % 2 ^ nbits) :: s.port, seq := .idle, rstIn := false }

end Sys2Proof.Machine
end

