-- ==== Sys2Proof/Machine/Assembler.lean ====
section
/-! DEFINITION. The textual form of commands (spec/30_encoding.md R87): one line to one command word. Text is a list
of characters; numbers are as in spec/00_scope.md R8. -/

namespace Sys2Proof.Machine

/-- Why a line does not assemble (R87). -/
inductive AsmError where
  /-- The first word is none of the eleven mnemonics. -/
  | unknownMnemonic
  /-- The mnemonic does not take this many operands. -/
  | operandCount
  /-- An operand is not a number of R8. -/
  | notANumber
  /-- "An operand out of range is an assembly error, not a truncated field." -/
  | outOfRange
  deriving DecidableEq, Repr

/-- The line up to its comment, which `;` opens (R87). -/
def dropComment : List Char → List Char
  | [] => []
  | c :: rest => if c = ';' then [] else c :: dropComment rest

/-- Whether a character separates words: a blank, a tab or the comma between operands. -/
def isSeparator (c : Char) : Bool := c = ' ' || c = '\t' || c = ','

/-- The words of a line; `word` is the word being read. -/
def wordsFrom : List Char → List Char → List (List Char)
  | word, [] => if word.isEmpty then [] else [word]
  | word, c :: rest =>
    if isSeparator c then
      if word.isEmpty then wordsFrom [] rest else word :: wordsFrom [] rest
    else wordsFrom (word ++ [c]) rest

/-- The words on a line, its comment left out (R87): the mnemonic, if there is one, and its operands. -/
def lineWords (line : List Char) : List (List Char) := wordsFrom [] (dropComment line)

/-- The value of a digit in base 16, or 16 for no digit. -/
def digitValue (c : Char) : Nat :=
  if 48 ≤ c.toNat ∧ c.toNat ≤ 57 then c.toNat - 48
  else if 65 ≤ c.toNat ∧ c.toNat ≤ 70 then c.toNat - 55
  else if 97 ≤ c.toNat ∧ c.toNat ≤ 102 then c.toNat - 87
  else 16

/-- The number some digits write in a base; `none` when one of them is no digit of it. -/
def digitsFrom (base : Nat) : Nat → List Char → Option Nat
  | value, [] => some value
  | value, c :: rest =>
    if digitValue c < base then digitsFrom base (value * base + digitValue c) rest else none

/-- A number of R8: `0x` hexadecimal, `0b` binary, else decimal. -/
def parseNumber (word : List Char) : Option Nat :=
  match word with
  | '0' :: 'x' :: d :: ds => digitsFrom 16 0 (d :: ds)
  | '0' :: 'b' :: d :: ds => digitsFrom 2 0 (d :: ds)
  | d :: ds => digitsFrom 10 0 (d :: ds)
  | [] => none

/-- All operands as numbers. -/
def parseNumbers : List (List Char) → Option (List Nat)
  | [] => some []
  | word :: rest =>
    match parseNumber word, parseNumbers rest with
    | some n, some ns => some (n :: ns)
    | _, _ => none

/-- A command with no operand. -/
def asm0 (i : Instr) : List Nat → Except AsmError CmdWord
  | [] => .ok (encode i)
  | _ => .error .operandCount

/-- A command with one 8-bit operand. -/
def asm1 (make : Byte → Instr) : List Nat → Except AsmError CmdWord
  | [n] =>
    if n < 256 ∧ (make (BitVec.ofNat 8 n)).wf then .ok (encode (make (BitVec.ofNat 8 n))) else .error .outOfRange
  | _ => .error .operandCount

/-- `ACK`, whose operand may be left out: `ACK` and `ACK 0` are the same word (R87). -/
def asmAck : List Nat → Except AsmError CmdWord
  | [] => .ok (encode (.ack 0))
  | ns => asm1 .ack ns

/-- A command with a 7-bit address and a register. -/
def asm2 (make : Addr7 → Byte → Instr) : List Nat → Except AsmError CmdWord
  | [a, r] =>
    if a < 128 ∧ r < 256 then .ok (encode (make (BitVec.ofNat 7 a) (BitVec.ofNat 8 r))) else .error .outOfRange
  | _ => .error .operandCount

/-- `WRITE_REG`: address, register, value. -/
def asmWriteReg : List Nat → Except AsmError CmdWord
  | [a, r, v] =>
    if a < 128 ∧ r < 256 ∧ v < 256 then
      .ok (encode (.writeReg (BitVec.ofNat 7 a) (BitVec.ofNat 8 r) (BitVec.ofNat 8 v)))
    else .error .outOfRange
  | _ => .error .operandCount

/-- The eleven mnemonics (R87) and how each takes its operands. -/
def asmTable : List (List Char × (List Nat → Except AsmError CmdWord)) :=
  [(['S', 'T', 'A', 'R', 'T'], asm0 .start), (['S', 'T', 'O', 'P'], asm0 .stop),
    (['S', 'E', 'N', 'D'], asm1 .send), (['R', 'E', 'A', 'D'], asm0 .read), (['A', 'C', 'K'], asmAck),
    (['S', 'E', 'N', 'D', '_', 'A', 'C', 'K'], asm0 .sendAck)] ++
  [(['S', 'E', 'N', 'D', '_', 'N', 'A', 'C', 'K'], asm0 .sendNack), (['S', 'C', 'A', 'N'], asm1 .scan),
    (['W', 'R', 'I', 'T', 'E', '_', 'R', 'E', 'G'], asmWriteReg),
    (['R', 'E', 'A', 'D', '_', 'R', 'E', 'G'], asm2 .readReg),
    (['R', 'E', 'A', 'D', '_', 'R', 'E', 'G', '_', 'W', 'O', 'R', 'D'], asm2 .readRegWord)]

/-- One mnemonic with its operand words. -/
def assembleWords (mnemonic : List Char) (operands : List (List Char)) : Except AsmError CmdWord :=
  match asmTable.lookup mnemonic with
  | none => .error .unknownMnemonic
  | some take =>
    match parseNumbers operands with
    | none => .error .notANumber
    | some ns => take ns

/-- One line (R87): a command word, nothing for a line with no command on it, or why it does not assemble. -/
def assembleLine (line : List Char) : Except AsmError (Option CmdWord) :=
  match lineWords line with
  | [] => .ok none
  | mnemonic :: operands =>
    match assembleWords mnemonic operands with
    | .ok w => .ok (some w)
    | .error e => .error e

end Sys2Proof.Machine
end

