-- ==== Sys2Proof/Safety.lean ====
section
/-! DEFINITION. The terms the statements use: how R87 writes commands as text, when the environment lets a command complete, the traces and values the
rules give (written out here from the rules, not from the machine's lists), what "unchanged" covers, the invariants,
and two machines compared. -/

namespace Sys2Proof.Machine

/-! ## Commands as text, written from R87 and not from the assembler's table -/

/-- The mnemonic of a command (R87). -/
def mnemonicOf : Instr → List Char
  | .start => ['S', 'T', 'A', 'R', 'T']
  | .stop => ['S', 'T', 'O', 'P']
  | .send _ => ['S', 'E', 'N', 'D']
  | .read => ['R', 'E', 'A', 'D']
  | .ack _ => ['A', 'C', 'K']
  | .sendAck => ['S', 'E', 'N', 'D', '_', 'A', 'C', 'K']
  | .sendNack => ['S', 'E', 'N', 'D', '_', 'N', 'A', 'C', 'K']
  | .scan _ => ['S', 'C', 'A', 'N']
  | .writeReg _ _ _ => ['W', 'R', 'I', 'T', 'E', '_', 'R', 'E', 'G']
  | .readReg _ _ => ['R', 'E', 'A', 'D', '_', 'R', 'E', 'G']
  | .readRegWord _ _ => ['R', 'E', 'A', 'D', '_', 'R', 'E', 'G', '_', 'W', 'O', 'R', 'D']

/-- The operands of a command as numbers, in the order R87 writes them. -/
def operandsOf : Instr → List Nat
  | .start => []
  | .stop => []
  | .send byte => [byte.toNat]
  | .read => []
  | .ack e => [e.toNat]
  | .sendAck => []
  | .sendNack => []
  | .scan first => [first.toNat]
  | .writeReg addr reg value => [addr.toNat, reg.toNat, value.toNat]
  | .readReg addr reg => [addr.toNat, reg.toNat]
  | .readRegWord addr reg => [addr.toNat, reg.toNat]

/-- The largest number R87 allows for each operand of a command with this mnemonic; `none` for any other word. -/
def operandBounds (mnemonic : List Char) : Option (List Nat) :=
  if mnemonic = mnemonicOf .start then some []
  else if mnemonic = mnemonicOf .stop then some []
  else if mnemonic = mnemonicOf (.send 0) then some [0xFF]
  else if mnemonic = mnemonicOf .read then some []
  else if mnemonic = mnemonicOf (.ack 0) then some [0xFF]
  else if mnemonic = mnemonicOf .sendAck then some []
  else if mnemonic = mnemonicOf .sendNack then some []
  else if mnemonic = mnemonicOf (.scan 0) then some [0xF1]
  else if mnemonic = mnemonicOf (.writeReg 0 0 0) then some [0x7F, 0xFF, 0xFF]
  else if mnemonic = mnemonicOf (.readReg 0 0) then some [0x7F, 0xFF]
  else if mnemonic = mnemonicOf (.readRegWord 0 0) then some [0x7F, 0xFF]
  else none

/-- A line reads as a mnemonic and these numbers (R87, R8). -/
def LineReads (line : List Char) (mnemonic : List Char) (numbers : List Nat) : Prop :=
  ∃ words, lineWords line = mnemonic :: words ∧ parseNumbers words = some numbers

/-- A line says a command: its mnemonic, and its operands as they stand, none of them cut; or `ACK` with no operand,
which says `ACK 0` (R87). -/
def LineSays (line : List Char) (i : Instr) : Prop :=
  LineReads line (mnemonicOf i) (operandsOf i) ∨ (i = .ack 0 ∧ LineReads line (mnemonicOf i) [])

/-- The ways R8 writes a number: decimal, `0x` with upper-case digits, `0b`; leading zeros after a prefix. -/
def Writes (word : List Char) (n : Nat) : Prop :=
  word = Nat.toDigits 10 n ∨
  (∃ zeros, word = '0' :: 'x' :: (List.replicate zeros '0' ++ (Nat.toDigits 16 n).map Char.toUpper)) ∨
  ∃ zeros, word = '0' :: 'b' :: (List.replicate zeros '0' ++ Nat.toDigits 2 n)

/-- Operands as R87 writes them after a mnemonic: a blank before each, a comma between two. -/
def operandText : List (List Char) → List Char
  | [] => []
  | [word] => ' ' :: word
  | word :: next :: rest => ' ' :: word ++ ',' :: operandText (next :: rest)

/-! ## The environment's side -/

/-- The environment releases the clock at the first poll of each of the next `n` waits (R143: "a claim that a command
completes needs the premise that the environment releases the clock at each wait"). -/
abbrev ClockReleased (s : State) (n : Nat) : Prop := ∀ j < n, s.sclAnswer j = true

/-- How many line updates of a command command the clock released, each of which waits (R54, R109, R128). -/
def waitsOf : Instr → Nat
  | .start => 2
  | .stop => 2
  | .send _ => 8
  | .read => 8
  | .ack _ => 1
  | .sendAck => 1
  | .sendNack => 1
  | .scan _ => 8 * 22
  | .writeReg _ _ _ => 2 + 4 * 9 + 2
  | .readReg _ _ => (2 + 2 * 9 + 2) + (2 + 9 + 8 + 1 + 2)
  | .readRegWord _ _ => (2 + 2 * 9 + 2) + (2 + 9 + 8 + 1 + 8 + 1 + 2)

/-- Line writes, samples and delays of a command (R109, R128). -/
def eventCounts : Instr → Nat × Nat × Nat
  | .start => (3, 0, 0)
  | .stop => (3, 0, 0)
  | .send _ => (24, 0, 0)
  | .read => (24, 8, 0)
  | .ack _ => (3, 1, 0)
  | .sendAck => (3, 0, 0)
  | .sendNack => (4, 0, 0)
  | .scan _ => (488, 72, 0)
  | .writeReg _ _ _ => (114, 4, 0)
  | .readReg _ _ => (121, 11, 1)
  | .readRegWord _ _ => (148, 19, 1)

/-- The eight answers from the `j`-th next one on, as a byte, the first of them bit 7 (R104). -/
def answeredByte (s : State) (j : Nat) : Byte :=
  BitVec.ofBool (s.sdaAnswer j) ++ BitVec.ofBool (s.sdaAnswer (j + 1)) ++ BitVec.ofBool (s.sdaAnswer (j + 2)) ++
    BitVec.ofBool (s.sdaAnswer (j + 3)) ++ BitVec.ofBool (s.sdaAnswer (j + 4)) ++
    BitVec.ofBool (s.sdaAnswer (j + 5)) ++ BitVec.ofBool (s.sdaAnswer (j + 6)) ++
    BitVec.ofBool (s.sdaAnswer (j + 7))

/-- The candidates of `SCAN first` whose `ack`, the first of their nine samples, is answered 0, in probing order
(R120). -/
def answeringCandidates (s : State) (first : Byte) : List Byte :=
  ((List.range 8).filter fun k => !s.sdaAnswer (9 * k)).map fun k => first + BitVec.ofNat 8 (2 * k)

/-! ## Expected traces, from the rules -/

/-- `11 01 00` (R101). -/
def startTrace : List Event := [.wr true true, .wr false true, .wr false false]

/-- `00 01 11` (R102). -/
def stopTrace : List Event := [.wr false false, .wr false true, .wr true true]

/-- `d0 d1 d0` for each bit of the byte, bit 7 first (R103). -/
def sendTrace (b : Byte) : List Event :=
  [7, 6, 5, 4, 3, 2, 1, 0].flatMap fun i => [.wr (b.getLsbD i) false, .wr (b.getLsbD i) true, .wr (b.getLsbD i) false]

/-- `10 11 s? 10` eight times, the samples being the answers from the `j`-th on (R104). -/
def recvTrace (s : State) (j : Nat) : List Event :=
  (List.range 8).flatMap fun n => [.wr true false, .wr true true, .sm (s.sdaAnswer (j + n)), .wr true false]

/-- `10 11 s? 10` (R105). -/
def ackTrace (s : State) (j : Nat) : List Event :=
  [.wr true false, .wr true true, .sm (s.sdaAnswer j), .wr true false]

/-- `00 01 00` (R106). -/
def sendAckTrace : List Event := [.wr false false, .wr false true, .wr false false]

/-- `10 11 10 00` (R107). -/
def sendNackTrace : List Event := [.wr true false, .wr true true, .wr true false, .wr false false]

/-- One candidate of a scan, its first sample the `j`-th (R120). -/
def probeTrace (s : State) (c : Byte) (j : Nat) : List Event :=
  startTrace ++ sendTrace c ++ ackTrace s j ++ recvTrace s (j + 1) ++ sendNackTrace ++ stopTrace

/-- A scan: the candidates `first + 2k`, nine samples each (R120, R128). -/
def scanTrace (s : State) (first : Byte) : List Event :=
  (List.range 8).flatMap fun k => probeTrace s (first + BitVec.ofNat 8 (2 * k)) (9 * k)

/-- `WRITE_REG` (R121). -/
def writeRegTrace (s : State) (addr : Addr7) (reg value : Byte) : List Event :=
  startTrace ++ sendTrace (wireAddr addr 0) ++ ackTrace s 0 ++ sendTrace reg ++ ackTrace s 1 ++ sendTrace value ++
    ackTrace s 2 ++ sendTrace 0 ++ ackTrace s 3 ++ stopTrace

/-- The first frame of the two reads, the delay, and the second frame as far as its `ack` (R122, R123). -/
def readOpeningTrace (s : State) (addr : Addr7) (reg : Byte) : List Event :=
  startTrace ++ sendTrace (wireAddr addr 0) ++ ackTrace s 0 ++ sendTrace reg ++ ackTrace s 1 ++ stopTrace ++ [.dl] ++
    startTrace ++ sendTrace (wireAddr addr 1) ++ ackTrace s 2

/-- `READ_REG` (R122). -/
def readRegTrace (s : State) (addr : Addr7) (reg : Byte) : List Event :=
  readOpeningTrace s addr reg ++ recvTrace s 3 ++ sendNackTrace ++ stopTrace

/-- `READ_REG_WORD` (R123). -/
def readRegWordTrace (s : State) (addr : Addr7) (reg : Byte) : List Event :=
  readOpeningTrace s addr reg ++ recvTrace s 3 ++ sendAckTrace ++ recvTrace s 11 ++ sendNackTrace ++ stopTrace

/-! ## Reading a trace -/

/-- The line pairs a trace commands, in order. -/
def writesOf (tr : List Event) : List (Level × Level) :=
  tr.filterMap fun
    | .wr d c => some (d, c)
    | .sm _ => none
    | .dl => none

/-- The values a trace samples, in order. -/
def samplesOf (tr : List Event) : List Level :=
  tr.filterMap fun
    | .wr _ _ => none
    | .sm v => some v
    | .dl => none

/-- How many delays a trace holds. -/
def delaysOf (tr : List Event) : Nat := tr.count .dl

/-- The lines after a trace that begins with both released: the last pair it commands (R21). -/
def linesAfter (tr : List Event) : Level × Level := (writesOf tr).getLastD (true, true)

/-- A trace with the sampled values blotted out. -/
def shapeOf (tr : List Event) : List Event :=
  tr.map fun
    | .wr d c => .wr d c
    | .sm _ => .sm true
    | .dl => .dl

/-- What a run added to the trace. -/
def addedTrace (s t : State) : List Event := t.trace.drop s.trace.length

/-- Both lines change between two pairs (R39, R55). -/
def bothChange (p q : Level × Level) : Bool := p.1 != q.1 && p.2 != q.2

/-- Data changes while the clock is commanded high, before and after (R39). -/
def dataMovesUnderHighClock (p q : Level × Level) : Bool := p.2 && q.2 && p.1 != q.1

/-- The positions at which data changes while the clock is commanded high, in a list of line pairs whose first has
the given position; the first argument is the pair before them. -/
def dataMovesAt : Level × Level → Nat → List (Level × Level) → List Nat
  | _, _, [] => []
  | p, n, q :: rest => if dataMovesUnderHighClock p q then n :: dataMovesAt q (n + 1) rest else dataMovesAt q (n + 1) rest

/-- Some adjacent pair of writes, the lines before them included, changes both lines. -/
def someWriteChangesBoth : Level × Level → List (Level × Level) → Bool
  | _, [] => false
  | p, q :: rest => bothChange p q || someWriteChangesBoth q rest

/-- The four transactions. -/
def isTransaction : Instr → Bool
  | .scan _ => true
  | .writeReg _ _ _ => true
  | .readReg _ _ => true
  | .readRegWord _ _ => true
  | .start => false
  | .stop => false
  | .send _ => false
  | .read => false
  | .ack _ => false
  | .sendAck => false
  | .sendNack => false

/-- Where among its writes, counted from 0, a transaction makes the second write of each `start` and the third write
of each `stop` (R127, with the lengths of R109). -/
def framingWrites : Instr → List Nat
  | .scan _ => (List.range 8).flatMap fun k => [61 * k + 1, 61 * k + 60]
  | .writeReg _ _ _ => [1, 113]
  | .readReg _ _ => [1, 59, 61, 120]
  | .readRegWord _ _ => [1, 59, 61, 147]
  | .start => []
  | .stop => []
  | .send _ => []
  | .read => []
  | .ack _ => []
  | .sendAck => []
  | .sendNack => []

/-- The first pair a primitive commands (R109). -/
def firstWriteOf : Instr → Level × Level
  | .start => (true, true)
  | .stop => (false, false)
  | .send byte => (byte.getLsbD 7, false)
  | .read => (true, false)
  | .ack _ => (true, false)
  | .sendAck => (false, false)
  | .sendNack => (true, false)
  | .scan _ => (true, true)
  | .writeReg _ _ _ => (true, true)
  | .readReg _ _ => (true, true)
  | .readRegWord _ _ => (true, true)

/-! ## Frames -/

/-- What no command touches: the operand latches, the reset input, the port, and the environment's plan. -/
abbrev InputsKept (s t : State) : Prop :=
  t.opc = s.opc ∧ t.latA = s.latA ∧ t.latB = s.latB ∧ t.latC = s.latC ∧ t.rstIn = s.rstIn ∧ t.port = s.port ∧
    t.envSda = s.envSda ∧ t.envScl = s.envScl

/-- The Transaction Error State is unchanged. -/
abbrev ErrorKept (s t : State) : Prop := t.err = s.err ∧ t.errmsg = s.errmsg

/-- The Device Address List, and the count of free bytes that only a scan draws, are unchanged. -/
abbrev ScanKept (s t : State) : Prop := t.scancnt = s.scancnt ∧ t.scanlist = s.scanlist ∧ t.freeNext = s.freeNext

/-- The trace only grows: nothing already on the bus is taken back. -/
abbrev TraceGrows (s t : State) : Prop := s.trace <+: t.trace

/-- `CAUSE` is written at the completion of a command and at no other time (R36). -/
abbrev CauseAtCompletion (s t : State) (c : Cause) : Prop := t.cause = if t.busy then s.cause else c

/-! ## Invariants -/

/-- `ERR = 1` exactly when `ERRMSG ≠ 0` (R25). -/
abbrev ErrOk (s : State) : Prop := s.err = (s.errmsg != 0)

/-- `SCANCNT` is at most 8 (R31). -/
abbrev ScanOk (s : State) : Prop := s.scancnt.toNat ≤ 8

/-- The operand latches hold the fields of the command's word (R29, R88). -/
def LatchesHold (s : State) (i : Instr) : Prop :=
  s.opc = opcField (encode i) ∧ s.latA = aField (encode i) ∧ s.latB = bField (encode i) ∧ s.latC = cField (encode i)

/-- How many samples the first `k` micro-operations of a command take. -/
def samplesBefore (i : Instr) (k : Nat) : Nat := ((opsOf i).take k).count .s

/-- Between steps `SEQ` is idle with the lines anywhere but data low, clock high (R109); or it stands at a line write
that commanded the clock released and waits there (R34, R53), for a well-formed command whose operands are latched,
with as many samples taken as micro-operation `k` has before it. -/
def SeqOk (s : State) : Prop :=
  match s.seq with
  | .idle => (s.sdaOut, s.sclOut) ≠ (false, true)
  | .running i k waiting samples =>
    i.wf = true ∧ LatchesHold s i ∧ waiting = true ∧ samples.length = samplesBefore i k ∧
      ∃ d, (opsOf i)[k]? = some (.w d true) ∧ s.trace.getLast? = some (.wr d true)

/-- The commanded lines are the pair last written, released if none has been written since reset (R21, R37). -/
abbrev LinesOk (s : State) : Prop := (s.sdaOut, s.sclOut) = linesAfter s.trace

/-- Every sample stands directly after a write that released both lines (R52: "Every `S()` in this spec is made with
`SDA_OUT = 1`"; R104, R105). -/
def SamplesOk (tr : List Event) : Prop :=
  ∀ n v, tr[n]? = some (.sm v) → ∃ m, n = m + 1 ∧ tr[m]? = some (.wr true true)

/-- What holds of the machine between any two steps. -/
structure Consistent (s : State) : Prop where
  err : ErrOk s
  scan : ScanOk s
  seq : SeqOk s
  lines : LinesOk s
  samples : SamplesOk s.trace

/-! ## Machines compared -/

/-- A state with the environment's clock plan and the number of polls blotted out (R53: "the number of polls is not
architectural"). -/
def State.withoutClock (s : State) : State := { s with envScl := [], sclPolls := 0 }

/-- From `s`, some number of steps later, the command in progress has completed in `u`, and not before (R143). -/
def CompletesAs (s u : State) : Prop :=
  ∃ m, Sys2Proof.core.run m s = .next u ∧ u.busy = false ∧
    ∀ j < m, ∀ v, Sys2Proof.core.run j s = .next v → v.busy = true

/-- `n` steps of one micro-operation each. -/
def microRun : Nat → State → State
  | 0, s => s
  | n + 1, s => microRun n (microStep s)

/-- The commands whose procedures include an `ack` (R23, R141). -/
def hasAck : Instr → Bool
  | .ack _ => true
  | .scan _ => true
  | .writeReg _ _ _ => true
  | .readReg _ _ => true
  | .readRegWord _ _ => true
  | .start => false
  | .stop => false
  | .send _ => false
  | .read => false
  | .sendAck => false
  | .sendNack => false

/-- The command in progress, if there is one. -/
def State.current (s : State) : Option Instr :=
  match s.seq with
  | .idle => none
  | .running i _ _ _ => some i

end Sys2Proof.Machine
end

