-- ==== Sys2Proof/Certificates/Slice0/Obligations.lean ====
section
/-! DEFINITION. The statements for the provers. Each docstring names the rule or section of spec/ it rests on; a
clause that rests on a choice of the model names its log entry. -/

open Sys2Proof Sys2Proof.Machine

/-! ## The command word -/

/-- Every well-formed command, with every operand at every value, is what its own word decodes to
(spec/30_encoding.md R80 to R83). -/
def Obligations.DecodeOfEncode : Prop := ∀ i : Instr, i.wf = true → decode (encode i) = .ok i

/-- A word that decodes is the word of the command it decodes to, and that command is well formed: no two words
share a command (spec/30_encoding.md R80 to R84). -/
def Obligations.EncodeOfDecode : Prop := ∀ (w : CmdWord) (i : Instr), decode w = .ok i → i.wf = true ∧ encode i = w

/-- The decoder, which reads fields, agrees with the table of match and mask as printed: a word decodes exactly when
it selects a row and is no `SCAN` with a start above 0xF1; the row selected is that of the command decoded; at most
one row is selected (spec/30_encoding.md R82, R84). -/
def Obligations.LegalWordsAreTheTableRows : Prop :=
  (∀ w : CmdWord, (∃ i, decode w = .ok i) ↔
    (∃ row ∈ tableRows, selectsRow w row = true) ∧ ¬(opcField w = 8 ∧ 0xF1#8 < aField w)) ∧
  (∀ (w : CmdWord) (i : Instr), decode w = .ok i → selectsRow w (tableRow i) = true) ∧
  (∀ w : CmdWord, ∀ r₁ ∈ tableRows, ∀ r₂ ∈ tableRows, selectsRow w r₁ = true → selectsRow w r₂ = true → r₁ = r₂)

/-- The encoding examples of spec/30_encoding.md section 7, word by word, the illegal ones with their reason. -/
def Obligations.PrintedWordsDecodeAsPrinted : Prop :=
  decode 0x10000000 = .ok .start ∧ decode 0x20000000 = .ok .stop ∧ decode 0x300000A5 = .ok (.send 0xA5) ∧
  decode 0x40000000 = .ok .read ∧ decode 0x50000000 = .ok (.ack 0) ∧ decode 0x50000007 = .ok (.ack 7) ∧
  decode 0x60000000 = .ok .sendAck ∧ decode 0x70000000 = .ok .sendNack ∧ decode 0x80100000 = .ok (.scan 0x10) ∧
  decode 0x904205FF = .ok (.writeReg 0x42 0x05 0xFF) ∧ decode 0xA0420500 = .ok (.readReg 0x42 0x05) ∧
  decode 0xB0420500 = .ok (.readRegWord 0x42 0x05) ∧
  decode 0x00000000 = .error .reservedOpcode ∧ decode 0xC0000000 = .error .reservedOpcode ∧
  decode 0x10000001 = .error .mustBeZero ∧ decode 0x90C205FF = .error .mustBeZero ∧
  decode 0x80F20000 = .error .scanStartTooHigh

/-- A line of text assembles to a word exactly when it says a well-formed command, and the word is that command's: the
mnemonic is the line's and each operand is the number the line writes, none of them cut. A number past its bound gives
`outOfRange`: "an operand out of range is an assembly error, not a truncated field" (spec/30_encoding.md R87). Then the
other lines: a wrong number of operands (`ACK` may leave its one out), a word that is no number, a first word that is
no mnemonic, and no word at all. How a line falls into words, and which error names a line with several, is log
entry 14. -/
def Obligations.AssembledWordsAreLegal : Prop :=
  (∀ (line : List Char) (w : CmdWord),
    assembleLine line = .ok (some w) ↔ ∃ i : Instr, i.wf = true ∧ LineSays line i ∧ w = encode i) ∧
  (∀ (line mnemonic : List Char) (numbers bounds : List Nat),
    LineReads line mnemonic numbers → operandBounds mnemonic = some bounds →
    (numbers.length = bounds.length →
      (∃ (k n b : Nat), numbers[k]? = some n ∧ bounds[k]? = some b ∧ b < n) →
      assembleLine line = .error .outOfRange) ∧
    (numbers.length ≠ bounds.length → ¬(mnemonic = mnemonicOf (.ack 0) ∧ numbers = []) →
      assembleLine line = .error .operandCount)) ∧
  (∀ (line mnemonic : List Char) (words : List (List Char)), lineWords line = mnemonic :: words →
    (operandBounds mnemonic = none → assembleLine line = .error .unknownMnemonic) ∧
    (operandBounds mnemonic ≠ none → parseNumbers words = none → assembleLine line = .error .notANumber)) ∧
  (∀ line : List Char, lineWords line = [] → assembleLine line = .ok none)

/-- A line written as the spec writes one, any mnemonic and any numbers, each decimal, hexadecimal or binary, with or
without a comment, reads as that mnemonic and those numbers; and text that only comments holds no word
(spec/30_encoding.md R87, spec/00_scope.md R8). -/
def Obligations.WrittenLinesReadAsWritten : Prop :=
  (∀ (i : Instr) (numbers : List Nat) (words : List (List Char)) (comment : List Char),
    List.Forall₂ Writes words numbers →
    LineReads (mnemonicOf i ++ operandText words) (mnemonicOf i) numbers ∧
    LineReads (mnemonicOf i ++ operandText words ++ ' ' :: ';' :: comment) (mnemonicOf i) numbers) ∧
  ∀ comment : List Char, lineWords (';' :: comment) = []

/-- The address byte holds the address in bits 7:1 and the direction in bit 0 (spec/30_encoding.md R85). -/
def Obligations.WireAddressIsTwiceAddressPlusDirection : Prop :=
  ∀ (addr : Addr7) (dir : BitVec 1), (wireAddr addr dir).toNat = 2 * addr.toNat + dir.toNat

/-- No candidate of a legal scan wraps (spec/42_register_transactions.md R120, spec/43 R130). -/
def Obligations.ScanCandidatesDoNotWrap : Prop :=
  ∀ (first : Byte) (k : Nat), first ≤ 0xF1#8 → k < 8 → (scanCandidate first k).toNat = first.toNat + 2 * k

/-! ## The step -/

/-- An idle block takes the presented word, latches its fields and runs the command it decodes to
(spec/30_encoding.md R88, spec/43 R135). -/
def Obligations.StepRunsDecodedCommand : Prop :=
  ∀ (s : State) (w : CmdWord) (rest : List CmdWord) (i : Instr),
    s.rstIn = false → s.seq = .idle → s.port = w :: rest → decode w = .ok i →
    step s = exec i { s with
      port := rest, opc := opcField w, latA := aField w, latB := bField w, latC := cField w }

/-- While a command is in progress no word is taken from the port and no latch is loaded
(spec/30_encoding.md R88; spec/20_memory.md R68). -/
def Obligations.BusyBlockTakesNoWord : Prop :=
  ∀ s t : State, s.rstIn = false → s.busy = true → step s = .next t → InputsKept s t

/-- An illegal word is accepted like any other (its fields are latched: log entry 5), does nothing on the bus, and
completes at once with `CAUSE = 2`; everything else is as before (spec/30_encoding.md R84, spec/60 R144). -/
def Obligations.IllegalWordWritesOnlyCause : Prop :=
  ∀ (s : State) (w : CmdWord) (rest : List CmdWord) (e : DecodeError),
    s.rstIn = false → s.seq = .idle → s.port = w :: rest → decode w = .error e →
    step s = .next { s with
      cause := .illegalCommand, port := rest, opc := opcField w, latA := aField w, latB := bField w,
      latC := cField w }

/-- A `SCAN` term with a start above 0xF1, which no legal word carries, does nothing but end with `CAUSE = 2`
(spec/30_encoding.md R84, spec/42 R120, spec/43 R135). -/
def Obligations.ScanAboveBoundIsIllegal : Prop :=
  ∀ (s : State) (first : Byte), 0xF1#8 < first →
    exec (.scan first) s = .next { s with cause := .illegalCommand, seq := .idle }

/-- Between commands the block changes no line and no state (spec/00_scope.md R4). -/
def Obligations.IdleBlockChangesNothing : Prop :=
  ∀ s : State, s.rstIn = false → s.seq = .idle → s.port = [] → step s = .next s

/-- Every state has a next state: no word and no environment stops the machine (spec/30_encoding.md R84: "every 32-bit
word is either one of the eleven commands or illegal"; spec/60 R140). -/
def Obligations.StepNeverStops : Prop := ∀ s : State, ∃ t, step s = .next t

/-! ## Reset -/

/-- The values of the reset table after power-up, the unspecified latches left out (spec/10_state.md R37). -/
def Obligations.PowerUpValues : Prop :=
  State.reset.sdaOut = true ∧ State.reset.sclOut = true ∧ State.reset.err = false ∧ State.reset.errmsg = 0 ∧
  State.reset.busy = false ∧ State.reset.seq = .idle ∧ State.reset.cause = .ok ∧ State.reset.scancnt = 0 ∧
  State.reset.trace = []

/-- Reset, in whatever state it comes, a command in progress or not, puts the block at the values of the reset table and
does nothing else: no line write recorded, no sample, no wait for the clock (spec/70_reset_and_hazards.md R160). -/
def Obligations.ResetFromAnyState : Prop :=
  ∀ s : State, s.rstIn = true → ∃ t, step s = .next t ∧
    t.sdaOut = true ∧ t.sclOut = true ∧ t.err = false ∧ t.errmsg = 0 ∧ t.busy = false ∧ t.seq = .idle ∧
    t.cause = .ok ∧ t.scancnt = 0 ∧ t.trace = [] ∧ t.sdaReads = s.sdaReads ∧ t.sclPolls = s.sclPolls

/-- The model's choice of log entry 8: a reset spends the reset input and leaves the words the host will present and
the environment's plan as they were; each reset draws fresh free bytes for the unspecified latches (log entry 3). -/
def Obligations.ResetLeavesTheOutsideAlone : Prop :=
  ∀ s t : State, s.rstIn = true → step s = .next t →
    t.rstIn = false ∧ t.port = s.port ∧ t.envSda = s.envSda ∧ t.envScl = s.envScl ∧
      t.freeNext = s.freeNext + freePerReset

/-! ## Results: where each command completes, and the whole state it leaves

Each says: when the environment releases the clock at every wait of the command, it completes, and the state is the
one before with exactly the listed changes. -/

/-- `START` (spec/41_protocol_engine.md section 3). -/
def Obligations.StartCompletes : Prop :=
  ∀ s : State, ClockReleased s 2 →
    exec .start s = .next { s with
      sdaOut := false, sclOut := false, seq := .idle, cause := .ok, sclPolls := s.sclPolls + 2,
      trace := s.trace ++ startTrace }

/-- `STOP` (spec/41_protocol_engine.md section 4). -/
def Obligations.StopCompletes : Prop :=
  ∀ s : State, ClockReleased s 2 →
    exec .stop s = .next { s with
      sdaOut := true, sclOut := true, seq := .idle, cause := .ok, sclPolls := s.sclPolls + 2,
      trace := s.trace ++ stopTrace }

/-- `SEND` (spec/41_protocol_engine.md section 5). -/
def Obligations.SendCompletes : Prop :=
  ∀ (s : State) (b : Byte), ClockReleased s 8 →
    exec (.send b) s = .next { s with
      sdaOut := b.getLsbD 0, sclOut := false, seq := .idle, cause := .ok, sclPolls := s.sclPolls + 8,
      trace := s.trace ++ sendTrace b }

/-- `READ` (spec/41_protocol_engine.md section 6). -/
def Obligations.ReadCompletes : Prop :=
  ∀ s : State, ClockReleased s 8 →
    exec .read s = .next { s with
      sdaOut := true, sclOut := false, seq := .idle, cause := .ok, rxd0 := answeredByte s 0,
      sdaReads := s.sdaReads + 8, sclPolls := s.sclPolls + 8, trace := s.trace ++ recvTrace s 0 }

/-- `ACK` (spec/41_protocol_engine.md section 7, with its table of three outcomes). -/
def Obligations.AckCompletes : Prop :=
  ∀ (s : State) (e : Byte), ClockReleased s 1 →
    exec (.ack e) s = .next { s with
      sdaOut := true, sclOut := false, seq := .idle, cause := .ok, ackr := !s.sdaAnswer 0,
      err := s.sdaAnswer 0 && e != 0, errmsg := if s.sdaAnswer 0 then e else 0,
      sdaReads := s.sdaReads + 1, sclPolls := s.sclPolls + 1, trace := s.trace ++ ackTrace s 0 }

/-- `SEND_ACK` (spec/41_protocol_engine.md section 8). -/
def Obligations.SendAckCompletes : Prop :=
  ∀ s : State, ClockReleased s 1 →
    exec .sendAck s = .next { s with
      sdaOut := false, sclOut := false, seq := .idle, cause := .ok, sclPolls := s.sclPolls + 1,
      trace := s.trace ++ sendAckTrace }

/-- `SEND_NACK` (spec/41_protocol_engine.md section 9). -/
def Obligations.SendNackCompletes : Prop :=
  ∀ s : State, ClockReleased s 1 →
    exec .sendNack s = .next { s with
      sdaOut := false, sclOut := false, seq := .idle, cause := .ok, sclPolls := s.sclPolls + 1,
      trace := s.trace ++ sendNackTrace }

/-- `SCAN` (spec/42_register_transactions.md section 3; spec/10_state.md R31). The list's entries past the count hold
no defined value, and nothing is said of them (log entry 4). -/
def Obligations.ScanCompletes : Prop :=
  ∀ (s : State) (first : Byte), first ≤ 0xF1#8 → ClockReleased s 176 →
    ∃ list : Vector Byte 8,
      (∀ (k : Nat) (h : k < 8), k < (answeringCandidates s first).length →
        (answeringCandidates s first)[k]? = some list[k]) ∧
      exec (.scan first) s = .next { s with
        sdaOut := true, sclOut := true, seq := .idle, err := false, errmsg := 0,
        cause := if answeringCandidates s first = [] then .noDevice else .ok,
        scancnt := BitVec.ofNat 4 (answeringCandidates s first).length, scanlist := list,
        freeNext := s.freeNext + 8, sdaReads := s.sdaReads + 72, sclPolls := s.sclPolls + 176,
        trace := s.trace ++ scanTrace s first }

/-- `WRITE_REG` (spec/42_register_transactions.md section 4): the error state is as the fourth `ack` left it. -/
def Obligations.WriteRegCompletes : Prop :=
  ∀ (s : State) (addr : Addr7) (reg value : Byte), ClockReleased s 40 →
    exec (.writeReg addr reg value) s = .next { s with
      sdaOut := true, sclOut := true, seq := .idle, cause := .ok, err := s.sdaAnswer 3,
      errmsg := if s.sdaAnswer 3 then 4 else 0, sdaReads := s.sdaReads + 4, sclPolls := s.sclPolls + 40,
      trace := s.trace ++ writeRegTrace s addr reg value }

/-- `READ_REG` (spec/42_register_transactions.md section 5): the error state is as the third `ack` left it. -/
def Obligations.ReadRegCompletes : Prop :=
  ∀ (s : State) (addr : Addr7) (reg : Byte), ClockReleased s 44 →
    exec (.readReg addr reg) s = .next { s with
      sdaOut := true, sclOut := true, seq := .idle, cause := .ok, err := s.sdaAnswer 2,
      errmsg := if s.sdaAnswer 2 then 5 else 0, rxd0 := answeredByte s 3, sdaReads := s.sdaReads + 11,
      sclPolls := s.sclPolls + 44, trace := s.trace ++ readRegTrace s addr reg }

/-- `READ_REG_WORD` (spec/42_register_transactions.md section 6): first byte received in `RXD0`, second in `RXD1`. -/
def Obligations.ReadRegWordCompletes : Prop :=
  ∀ (s : State) (addr : Addr7) (reg : Byte), ClockReleased s 53 →
    exec (.readRegWord addr reg) s = .next { s with
      sdaOut := true, sclOut := true, seq := .idle, cause := .ok, err := s.sdaAnswer 2,
      errmsg := if s.sdaAnswer 2 then 5 else 0, rxd0 := answeredByte s 3, rxd1 := answeredByte s 11,
      sdaReads := s.sdaReads + 19, sclPolls := s.sclPolls + 53, trace := s.trace ++ readRegWordTrace s addr reg }

/-! ## Frames, whether the command completes or the clock holds it -/

/-- `START`, `STOP`, `SEND`, `SEND_ACK`, `SEND_NACK` write the lines and, at completion, `CAUSE`; no flag, no result,
no sample (spec/41_protocol_engine.md sections 3 to 5, 8, 9). -/
def Obligations.PrimitivesWithoutSampleFrame : Prop :=
  ∀ (i : Instr) (s t : State), (i = .start ∨ i = .stop ∨ (∃ b, i = .send b) ∨ i = .sendAck ∨ i = .sendNack) →
    exec i s = .next t →
    InputsKept s t ∧ ErrorKept s t ∧ ScanKept s t ∧ TraceGrows s t ∧ CauseAtCompletion s t .ok ∧
      t.ackr = s.ackr ∧ t.rxd0 = s.rxd0 ∧ t.rxd1 = s.rxd1 ∧ t.sdaReads = s.sdaReads

/-- `READ` leaves the error state, `ACKR`, `RXD1` and the scan list, and writes `RXD0` only when it completes
(spec/41_protocol_engine.md section 6). -/
def Obligations.ReadFrame : Prop :=
  ∀ s t : State, exec .read s = .next t →
    InputsKept s t ∧ ErrorKept s t ∧ ScanKept s t ∧ TraceGrows s t ∧ CauseAtCompletion s t .ok ∧
      t.ackr = s.ackr ∧ t.rxd1 = s.rxd1 ∧ (t.busy = true → t.rxd0 = s.rxd0)

/-- `ACK` leaves the received bytes and the scan list; `ACKR`, `ERR` and `ERRMSG` change only when it completes, since
its one wait comes before its decision (spec/41_protocol_engine.md section 7). -/
def Obligations.AckFrame : Prop :=
  ∀ (s t : State) (e : Byte), exec (.ack e) s = .next t →
    InputsKept s t ∧ ScanKept s t ∧ TraceGrows s t ∧ CauseAtCompletion s t .ok ∧
      t.rxd0 = s.rxd0 ∧ t.rxd1 = s.rxd1 ∧ (t.busy = true → ErrorKept s t ∧ t.ackr = s.ackr)

/-- A legal `SCAN` leaves `ACKR`, `RXD0` and `RXD1`; the list, its count and `CAUSE` are written only when it completes;
the error state is at every hold as it was or clear (spec/42_register_transactions.md section 3). That the list and its
count are written only at completion is an inference of the model's, log entry 11 (DEDUCED): R120's pseudocode writes
`SCANLIST` as it goes, spec/10_state.md R31 and R35 and spec/70 R172 write it with the command's completion. -/
def Obligations.ScanFrame : Prop :=
  ∀ (s t : State) (first : Byte), first ≤ 0xF1#8 → exec (.scan first) s = .next t →
    InputsKept s t ∧ TraceGrows s t ∧ t.ackr = s.ackr ∧ t.rxd0 = s.rxd0 ∧ t.rxd1 = s.rxd1 ∧
      (t.busy = true → ScanKept s t ∧ t.cause = s.cause) ∧
      (ErrorKept s t ∨ (t.err = false ∧ t.errmsg = 0))

/-- `WRITE_REG`, `READ_REG` and `READ_REG_WORD` leave `ACKR` and the scan list; `WRITE_REG` leaves both received
bytes, `READ_REG` the second; a received byte is written only when the command completes
(spec/42_register_transactions.md sections 4 to 6). -/
def Obligations.RegisterTransactionsFrame : Prop :=
  ∀ (i : Instr) (s t : State),
    ((∃ a r v, i = .writeReg a r v) ∨ (∃ a r, i = .readReg a r) ∨ (∃ a r, i = .readRegWord a r)) →
    exec i s = .next t →
    InputsKept s t ∧ ScanKept s t ∧ TraceGrows s t ∧ CauseAtCompletion s t .ok ∧ t.ackr = s.ackr ∧
      (t.busy = true → t.rxd0 = s.rxd0 ∧ t.rxd1 = s.rxd1) ∧
      ((∃ a r v, i = .writeReg a r v) → t.rxd0 = s.rxd0 ∧ t.rxd1 = s.rxd1) ∧
      ((∃ a r, i = .readReg a r) → t.rxd1 = s.rxd1)

/-! ## The clock -/

/-- A command completes IN THE STEP THAT RUNS IT exactly when the environment releases the clock at the first poll of
each of its waits (spec/20_memory.md R53, R54; spec/60 R143). That a poll which reads 0 ends the step is the model's
choice, log entry 1 (DESIGN CHOICE): by R53 and R143 a command whose clock is released at a later poll completes too, in
a later step (`HeldCommandCompletesOnceReleased`). -/
def Obligations.CompletesExactlyWhenClockReleased : Prop :=
  ∀ (i : Instr) (s t : State), i.wf = true → exec i s = .next t →
    (t.busy = false ↔ ClockReleased s (waitsOf i))

/-- A command that does not complete stands at a line write that commanded the clock released: the write is done, its
poll read 0, and no result and no `CAUSE` has been written (spec/60 R143, spec/10_state.md R34, R35). That the step
ends there is log entry 1 (DESIGN CHOICE); that `SCAN` has not begun its list is log entry 11 (DEDUCED). -/
def Obligations.HeldCommandStandsAtClockRise : Prop :=
  ∀ (i : Instr) (s t : State), i.wf = true → exec i s = .next t → t.busy = true →
    (∃ k d samples, t.seq = .running i k true samples ∧ (opsOf i)[k]? = some (.w d true) ∧
      t.sdaOut = d ∧ t.sclOut = true ∧ t.trace.getLast? = some (.wr d true)) ∧
    0 < t.sclPolls ∧ t.envSclAt (t.sclPolls - 1) = false ∧
    t.cause = s.cause ∧ t.ackr = s.ackr ∧ t.rxd0 = s.rxd0 ∧ t.rxd1 = s.rxd1 ∧ ScanKept s t

/-- A held command goes on when the clock is released, after however many polls (spec/20_memory.md R53, spec/60 R143:
"the command goes on from where it stood as if nothing had happened"): if the next `n` polls read 0 and the later ones,
as many as the command can still have waits, read 1, it is still in progress after each of the first `n` steps and
completes in the step after them. `Consistent` (kept by every step) says that it is held with the clock commanded
released. One poll a step while it reads 0 is log entry 1 (DESIGN CHOICE). -/
def Obligations.HeldCommandCompletesOnceReleased : Prop :=
  ∀ (n : Nat) (s : State) (i : Instr), Consistent s → s.rstIn = false → s.current = some i →
    (∀ j < n, s.sclAnswer j = false) → (∀ j < waitsOf i, s.sclAnswer (n + j) = true) →
    (∀ m ≤ n, ∃ t, Sys2Proof.core.run m s = .next t ∧ t.busy = true) ∧
      ∃ u, Sys2Proof.core.run (n + 1) s = .next u ∧ u.busy = false

/-- While every poll reads 0 the block stays where it is, however long: no flag, no code, no event, no line, no word
taken (spec/20_memory.md R53, spec/60 R143). One poll a step is log entry 1 (DESIGN CHOICE). -/
def Obligations.StuckClockHoldsForever : Prop :=
  ∀ (n : Nat) (s : State) (i : Instr) (k : Nat) (samples : List Level),
    s.rstIn = false → s.seq = .running i k true samples → k < (opsOf i).length →
    (∀ j < n, s.sclAnswer j = false) →
    Sys2Proof.core.run n s = .next { s with sclPolls := s.sclPolls + n }

/-- However the environment stretches the clock, a command that completes leaves the same state, but for the clock's
own plan and the number of polls (spec/60 R143: "the command goes on from where it stood as if nothing had
happened"; where its steps end is log entry 1). -/
def Obligations.ClockStretchingLeavesNoMark : Prop :=
  ∀ (i : Instr) (s s' t t' u u' : State), i.wf = true → s.rstIn = false →
    s'.withoutClock = s.withoutClock → exec i s = .next t → exec i s' = .next t' →
    CompletesAs t u → CompletesAs t' u' → u'.withoutClock = u.withoutClock

/-! ## One micro-operation at a time -/

/-- The step that runs a whole command and the step of one micro-operation agree: each step of the machine is some
number of micro-steps (spec/43 R135). -/
def Obligations.MicroStepsMakeEachStep : Prop :=
  ∀ s : State, ∃ n, n ≤ 561 ∧ step s = .next (microRun n s)

/-! ## Invariants -/

/-- The invariant holds right after power-up. -/
def Obligations.ConsistentAtPowerUp : Prop := Consistent State.reset

/-- Every step keeps it: the error flag matches its message (R25), the count is at most 8 (R31), the sequencer stands
idle with legal lines or held at a clock rise of the latched command (R29, R34, R109), the lines are those last written
(R21), and every sample was taken with both lines released (R52). -/
def Obligations.StepKeepsConsistent : Prop :=
  ∀ s t : State, Consistent s → step s = .next t → Consistent t

/-- `ERR = 1` exactly when `ERRMSG ≠ 0`, at every moment: inside a command too (spec/10_state.md R25). -/
def Obligations.ErrorFlagMatchesMessageAtEveryMoment : Prop :=
  ErrOk State.reset ∧ (∀ s : State, ErrOk s → ErrOk (microStep s)) ∧
    ∀ s t : State, ErrOk s → step s = .next t → ErrOk t

/-! ## Rules about all commands -/

/-- Inside a transaction begun with the lines at (1, 1) or (1, 0) no line write changes both lines, and data moves
under a high clock at the second write of each start, at the third of each stop, and nowhere else
(spec/42_register_transactions.md section 7, R127; spec/10_state.md R39). -/
def Obligations.TransactionsKeepTheLineRule : Prop :=
  ∀ (i : Instr) (s t : State), isTransaction i = true → i.wf = true → s.sdaOut = true → exec i s = .next t →
    someWriteChangesBoth (s.sdaOut, s.sclOut) (writesOf (addedTrace s t)) = false ∧
    (t.busy = false →
      dataMovesAt (s.sdaOut, s.sclOut) 0 (writesOf (addedTrace s t)) = framingWrites i)

/-- The first line update of each command, whatever the state it starts from; and for the primitives, from the line
states a command can leave, exactly when it changes both lines (spec/41 R109; spec/70 R166). -/
def Obligations.FirstWriteOfEachCommand : Prop :=
  (∀ (i : Instr) (s t : State), i.wf = true → exec i s = .next t →
    (writesOf (addedTrace s t)).head? = some (firstWriteOf i)) ∧
  (∀ (i : Instr) (d c : Level), isTransaction i = false → (d, c) ≠ (false, true) →
    (bothChange (d, c) (firstWriteOf i) = true ↔
      (i = .start ∧ (d, c) = (false, false)) ∨
      ((i = .stop ∨ i = .sendAck ∨ ∃ b : Byte, i = .send b ∧ b.getLsbD 7 = false) ∧ (d, c) = (true, true))))

/-- What a completed command puts on the bus, sampled values aside, depends on the command alone: not on the state it
starts from and not on any answer (spec/10_state.md R34, spec/41 R100, spec/42 R124, spec/43 R133). -/
def Obligations.TraceShapeDependsOnCommandAlone : Prop :=
  ∀ (i : Instr) (s s' t t' : State), i.wf = true → exec i s = .next t → exec i s' = .next t' →
    t.busy = false → t'.busy = false →
    shapeOf (addedTrace s t) = shapeOf (addedTrace s' t')

/-- Line writes, samples and delays of each completed command (spec/41 R109, spec/42 R128). -/
def Obligations.EventCountsOfEachCommand : Prop :=
  ∀ (i : Instr) (s t : State), i.wf = true → exec i s = .next t → t.busy = false →
    ((writesOf (addedTrace s t)).length, (samplesOf (addedTrace s t)).length, delaysOf (addedTrace s t)) =
      eventCounts i

/-- Each result latch is written only by the commands named for it, and only when they complete
(spec/10_state.md R30, R31; that `SCAN` writes its list only then is log entry 11, DEDUCED). -/
def Obligations.ResultLatchesHaveTheirOwnWriters : Prop :=
  ∀ (i : Instr) (s t : State), exec i s = .next t →
    (t.ackr ≠ s.ackr → t.busy = false ∧ ∃ e, i = .ack e) ∧
    (t.rxd0 ≠ s.rxd0 → t.busy = false ∧ (i = .read ∨ (∃ a r, i = .readReg a r) ∨ ∃ a r, i = .readRegWord a r)) ∧
    (t.rxd1 ≠ s.rxd1 → t.busy = false ∧ ∃ a r, i = .readRegWord a r) ∧
    (¬ScanKept s t → t.busy = false ∧ ∃ first, i = .scan first)

/-- Only a command that includes an acknowledge check, and reset, can change the Transaction Error State
(spec/10_state.md R23). -/
def Obligations.OnlyAcknowledgesWriteErrorState : Prop :=
  ∀ s t : State, s.rstIn = false → step s = .next t → ¬ErrorKept s t →
    (∃ i, s.current = some i ∧ hasAck i = true) ∨
    (s.current = none ∧ ∃ w rest i, s.port = w :: rest ∧ decode w = .ok i ∧ hasAck i = true)

/-- `CAUSE` is written at the completion of every command and at no other time: 1 for a `SCAN` that found no responder,
2 for an illegal word, 0 otherwise; an acknowledge failure does not change it (spec/10_state.md R36). The clauses: a
command from its beginning; a command that goes on after a hold; an illegal word; no word. -/
def Obligations.CauseSaysHowTheCommandEnded : Prop :=
  (∀ (i : Instr) (s t : State), i.wf = true → exec i s = .next t →
    (t.busy = true → t.cause = s.cause) ∧
    (t.busy = false →
      ((∃ first, i = .scan first) ∧ (∀ k < 8, s.sdaAnswer (9 * k) = true) → t.cause = .noDevice) ∧
      (¬((∃ first, i = .scan first) ∧ (∀ k < 8, s.sdaAnswer (9 * k) = true)) → t.cause = .ok))) ∧
  (∀ (s t : State) (i : Instr) (k : Nat) (waiting : Bool) (samples : List Level),
    s.rstIn = false → s.seq = .running i k waiting samples → step s = .next t →
    (t.busy = true → t.cause = s.cause) ∧
    (t.busy = false →
      ((∃ first, i = .scan first) ∧ t.scancnt = 0 → t.cause = .noDevice) ∧
      (¬((∃ first, i = .scan first) ∧ t.scancnt = 0) → t.cause = .ok))) ∧
  (∀ (s : State) (w : CmdWord) (rest : List CmdWord) (e : DecodeError),
    s.rstIn = false → s.seq = .idle → s.port = w :: rest → decode w = .error e →
    ∃ t, step s = .next t ∧ t.busy = false ∧ t.cause = .illegalCommand) ∧
  (∀ s : State, s.rstIn = false → s.seq = .idle → s.port = [] → ∃ t, step s = .next t ∧ t.cause = s.cause)

/-- `NO_DEVICE` is raised by `SCAN` only, exactly when all eight candidates went unacknowledged, never before the
eighth's stop; then `SCANCNT = 0`, the error state is clear and both lines are released (spec/60 R142). -/
def Obligations.NoDeviceExactlyWhenNobodyAnswers : Prop :=
  ∀ (i : Instr) (s t : State), i.wf = true → exec i s = .next t → s.cause ≠ .noDevice →
    (t.cause = .noDevice ↔
      t.busy = false ∧ (∃ first, i = .scan first) ∧ ∀ k < 8, s.sdaAnswer (9 * k) = true) ∧
    (t.cause = .noDevice →
      t.scancnt = 0 ∧ t.err = false ∧ t.errmsg = 0 ∧ t.sdaOut = true ∧ t.sclOut = true ∧
        (writesOf (addedTrace s t)).length = 488 ∧ (samplesOf (addedTrace s t)).length = 72)

/-- A byte sent and echoed is the byte read: `SEND b` and then `READ` against answers that repeat the bits of `b`, bit 7
first (spec/41_protocol_engine.md section 6, the loop-back property). -/
def Obligations.LoopbackReproducesTheByte : Prop :=
  ∀ (s : State) (b : Byte), ClockReleased s 16 → (∀ n < 8, s.sdaAnswer n = b.getLsbD (7 - n)) →
    ∃ t u, exec (.send b) s = .next t ∧ exec .read t = .next u ∧ u.busy = false ∧ u.rxd0 = b

/-- `START` immediately followed by `STOP` leaves both lines released, by the trace `11 01 00 00 01 11`
(spec/41_protocol_engine.md section 4). -/
def Obligations.StartThenStopEndsReleased : Prop :=
  ∀ s : State, ClockReleased s 4 →
    ∃ t u, exec .start s = .next t ∧ exec .stop t = .next u ∧ u.busy = false ∧ u.sdaOut = true ∧ u.sclOut = true ∧
      u.trace = s.trace ++ [.wr true true, .wr false true, .wr false false, .wr false false, .wr false true,
        .wr true true]

/-- A sample of a driven data line is 0 whatever the environment does, a sample of a released one is the
environment's; sampling changes no state of the block and no line (spec/20_memory.md R50, R52). -/
def Obligations.SampleFollowsTheOpenDrainRule : Prop :=
  ∀ s : State, (s.sdaOut = false → (lineRead s).1 = false) ∧ (s.sdaOut = true → (lineRead s).1 = s.sdaAnswer 0) ∧
    (lineRead s).2 = { s with
      sdaReads := s.sdaReads + 1, trace := s.trace ++ [.sm (s.sdaOut && s.sdaAnswer 0)] }

/-! ## What the host reads -/

/-- The register numbers (spec/10_state.md R33); a read is a view of the state and changes nothing. -/
def Obligations.RegisterNumbers : Prop :=
  ∀ s : State, s.hostRead 0 = s.status ∧ s.hostRead 1 = s.errmsg ∧ s.hostRead 2 = s.rxd0 ∧ s.hostRead 3 = s.rxd1 ∧
    (s.hostRead 4).toNat = s.scancnt.toNat ∧
    (∀ (k : Nat) (h : k < 8), s.hostRead (5 + k) = s.scanlist[k]) ∧
    (s.hostRead 13).toNat = s.sdaOut.toNat + 2 * s.sclOut.toNat ∧
    ∀ n, 14 ≤ n → s.hostRead n = 0

/-- `STATUS`, bit by bit (spec/10_state.md R32); code 3 of `CAUSE` is never produced (R145). -/
def Obligations.StatusBits : Prop :=
  ∀ s : State, s.status.getLsbD 0 = s.busy ∧ s.status.getLsbD 1 = s.err ∧ s.status.getLsbD 2 = s.ackr ∧
    s.status.extractLsb' 3 2 = s.cause.code ∧ s.status.extractLsb' 5 3 = 0 ∧ s.cause.code ≠ 3 ∧
    (s.cause = .ok ↔ s.cause.code = 0) ∧ (s.cause = .noDevice ↔ s.cause.code = 1) ∧
    (s.cause = .illegalCommand ↔ s.cause.code = 2)
end

