-- ==== Sys2Proof/Laws/Assembler.lean ====
section
/-! SUPPORT. What each part of the assembler answers: a comment and the words of a line, the digits of a number, and
when the operands of a command give a word (R87, R8). -/

namespace Sys2Proof.Machine

/-! ## Text -/

/-- What stands before the comment is kept. -/
theorem dropComment_append (a rest : List Char) (plain : ∀ c ∈ a, c ≠ ';') :
    dropComment (a ++ rest) = a ++ dropComment rest := by
  induction a with
  | nil => rfl
  | cons c a ih => simp [dropComment, plain c (by simp), ih fun d hd => plain d (by simp [hd])]

/-- Characters that separate nothing go into the word being read. -/
theorem wordsFrom_append (w : List Char) (plain : ∀ c ∈ w, isSeparator c = false) (word rest : List Char) :
    wordsFrom word (w ++ rest) = wordsFrom (word ++ w) rest := by
  induction w generalizing word with
  | nil => simp
  | cons c w ih => simp [wordsFrom, plain c (by simp), ih fun d hd => plain d (by simp [hd])]

/-- A separator ends a word. -/
theorem wordsFrom_separator {c : Char} (sep : isSeparator c = true) {word : List Char} (begun : word ≠ [])
    (rest : List Char) : wordsFrom word (c :: rest) = word :: wordsFrom [] rest := by
  cases word with
  | nil => exact absurd rfl begun
  | cons a word => simp [wordsFrom, sep]

/-- A separator between words is passed over. -/
theorem wordsFrom_blank {c : Char} (sep : isSeparator c = true) (rest : List Char) :
    wordsFrom [] (c :: rest) = wordsFrom [] rest := by simp [wordsFrom, sep]

/-! ## Numbers -/

/-- A digit as Lean writes it has its value, in either case. -/
theorem digitValue_digitChar :
    ∀ d < 16, digitValue (Nat.digitChar d) = d ∧ digitValue (Nat.digitChar d).toUpper = d := by decide

/-- Digits are read from the left. -/
theorem digitsFrom_append (base value : Nat) (xs ys : List Char) :
    digitsFrom base value (xs ++ ys) = (digitsFrom base value xs).bind fun v => digitsFrom base v ys := by
  induction xs generalizing value with
  | nil => rfl
  | cons c xs ih => simp only [List.cons_append, digitsFrom]; split <;> simp [ih]

/-! ## Operands -/

theorem asm0_eq_ok {i : Instr} {ns : List Nat} {w : CmdWord} : asm0 i ns = .ok w ↔ ns = [] ∧ w = encode i := by
  cases ns <;> simp [asm0, eq_comm]

/-- The one operand is the number as it stands. -/
theorem asm1_eq_ok {make : Byte → Instr} {ns : List Nat} {w : CmdWord} :
    asm1 make ns = .ok w ↔ ∃ b : Byte, (make b).wf = true ∧ ns = [b.toNat] ∧ w = encode (make b) := by
  rcases ns with _ | ⟨n, _ | ⟨m, ns⟩⟩
  · simp [asm1]
  · rw [asm1]
    constructor
    · intro h
      split at h
      · rename_i fits
        cases h
        exact ⟨_, fits.2, by simp [Nat.mod_eq_of_lt fits.1], rfl⟩
      · cases h
    · rintro ⟨b, legal, h, rfl⟩
      cases h
      simp [legal, b.isLt]
  · simp [asm1]

/-- `ACK` takes one operand, or none for 0. -/
theorem asmAck_eq_ok {ns : List Nat} {w : CmdWord} :
    asmAck ns = .ok w ↔ ∃ e : Byte, (ns = [e.toNat] ∨ (e = 0 ∧ ns = [])) ∧ w = encode (.ack e) := by
  rcases ns with _ | ⟨n, ns⟩
  · constructor
    · intro h; cases h; exact ⟨0, .inr ⟨rfl, rfl⟩, rfl⟩
    · rintro ⟨e, h | ⟨rfl, -⟩, rfl⟩
      · cases h
      · rfl
  · constructor
    · intro h
      obtain ⟨e, -, h, hw⟩ := asm1_eq_ok.1 (show asm1 .ack (n :: ns) = .ok w from h)
      exact ⟨e, .inl h, hw⟩
    · rintro ⟨e, h | ⟨-, h⟩, hw⟩
      · exact asm1_eq_ok.2 ⟨e, rfl, h, hw⟩
      · cases h

/-- Both operands are the numbers as they stand. -/
theorem asm2_eq_ok {make : Addr7 → Byte → Instr} {ns : List Nat} {w : CmdWord} :
    asm2 make ns = .ok w ↔ ∃ a r, ns = [a.toNat, r.toNat] ∧ w = encode (make a r) := by
  rcases ns with _ | ⟨n, _ | ⟨m, _ | ⟨k, ns⟩⟩⟩
  · simp [asm2]
  · simp [asm2]
  · rw [asm2]
    constructor
    · intro h
      split at h
      · rename_i fits
        cases h
        exact ⟨_, _, by simp [Nat.mod_eq_of_lt fits.1, Nat.mod_eq_of_lt fits.2], rfl⟩
      · cases h
    · rintro ⟨a, r, h, rfl⟩
      cases h
      simp [a.isLt, r.isLt]
  · simp [asm2]

/-- All three operands are the numbers as they stand. -/
theorem asmWriteReg_eq_ok {ns : List Nat} {w : CmdWord} :
    asmWriteReg ns = .ok w ↔
      ∃ a r v, ns = [a.toNat, r.toNat, v.toNat] ∧ w = encode (.writeReg a r v) := by
  rcases ns with _ | ⟨n, _ | ⟨m, _ | ⟨k, _ | ⟨l, ns⟩⟩⟩⟩
  · simp [asmWriteReg]
  · simp [asmWriteReg]
  · simp [asmWriteReg]
  · rw [asmWriteReg]
    constructor
    · intro h
      split at h
      · rename_i fits
        cases h
        exact ⟨_, _, _, by simp [Nat.mod_eq_of_lt fits.1, Nat.mod_eq_of_lt fits.2.1, Nat.mod_eq_of_lt fits.2.2], rfl⟩
      · cases h
    · rintro ⟨a, r, v, h, rfl⟩
      cases h
      simp [a.isLt, r.isLt, v.isLt]
  · simp [asmWriteReg]

end Sys2Proof.Machine
end

