-- ==== Sys2Proof/Laws/Decode.lean ====
section
/-! SUPPORT. The fields of a packed word are what was packed, and a word is its fields packed. -/

namespace Sys2Proof

variable (opc z : BitVec 4) (a b c : Byte)

@[simp] theorem opcField_packWord : opcField (packWord opc z a b c) = opc := by
  ext i hi
  simp only [opcField, packWord, BitVec.getElem_extractLsb', BitVec.getLsbD_append]
  simp [show ¬(28 + i < 8) by omega, show ¬(28 + i - 8 < 8) by omega, show ¬(28 + i - 8 - 8 < 8) by omega,
    show ¬(28 + i - 8 - 8 - 8 < 4) by omega, show 28 + i - 8 - 8 - 8 - 4 = i by omega, BitVec.getLsbD_eq_getElem hi]

@[simp] theorem zField_packWord : zField (packWord opc z a b c) = z := by
  ext i hi
  simp only [zField, packWord, BitVec.getElem_extractLsb', BitVec.getLsbD_append]
  simp [show ¬(24 + i < 8) by omega, show ¬(24 + i - 8 < 8) by omega, show ¬(24 + i - 8 - 8 < 8) by omega,
    show 24 + i - 8 - 8 - 8 = i by omega, hi]

@[simp] theorem aField_packWord : aField (packWord opc z a b c) = a := by
  ext i hi
  simp only [aField, packWord, BitVec.getElem_extractLsb', BitVec.getLsbD_append]
  simp [show ¬(16 + i < 8) by omega, show ¬(16 + i - 8 < 8) by omega, show 16 + i - 8 - 8 = i by omega, hi]

@[simp] theorem bField_packWord : bField (packWord opc z a b c) = b := by
  ext i hi
  simp only [bField, packWord, BitVec.getElem_extractLsb', BitVec.getLsbD_append]
  simp [show ¬(8 + i < 8) by omega, show 8 + i - 8 = i by omega, hi]

@[simp] theorem cField_packWord : cField (packWord opc z a b c) = c := by
  ext i hi
  simp only [cField, packWord, BitVec.getElem_extractLsb', BitVec.getLsbD_append]
  simp [hi]

/-- `A7` and bit 23 are the two parts of field `A`. -/
theorem a7Field_eq (w : CmdWord) : a7Field w = (aField w).extractLsb' 0 7 := by
  ext i hi
  simp [a7Field, aField, show i < 8 by omega]

theorem a7High_eq (w : CmdWord) : a7High w = (aField w).extractLsb' 7 1 := by
  ext i hi
  simp [a7High, aField, show 7 + i < 8 by omega, show 16 + (7 + i) = 23 + i by omega]

@[simp] theorem extract_a7Operand (x : Addr7) : (a7Operand x).extractLsb' 0 7 = x := by
  ext i hi
  simp [a7Operand, BitVec.getLsbD_eq_getElem hi, show i < 8 by omega]

@[simp] theorem extract_high_a7Operand (x : Addr7) : (a7Operand x).extractLsb' 7 1 = 0 := by
  ext i hi
  simp [a7Operand]

/-- A byte whose bit 7 is zero is its low seven bits as an operand. -/
theorem a7Operand_extract (x : Byte) (h : x.extractLsb' 7 1 = 0) : a7Operand (x.extractLsb' 0 7) = x := by
  ext i hi
  by_cases h7 : i < 7
  · simp [a7Operand, h7, BitVec.getLsbD_eq_getElem hi]
  · obtain rfl : i = 7 := by omega
    have high := congrArg (fun v => v.getLsbD 0) h
    simp at high
    simp [a7Operand, high]

/-- Every word is its five fields, packed. -/
theorem packWord_fields (w : CmdWord) : packWord (opcField w) (zField w) (aField w) (bField w) (cField w) = w := by
  apply BitVec.eq_of_getLsbD_eq
  intro i hi
  simp only [packWord, opcField, zField, aField, bField, cField, BitVec.getLsbD_append, BitVec.getLsbD_extractLsb']
  repeat' split
  all_goals
    rw [decide_eq_true (by omega), Bool.true_and]
    congr 1
    omega

end Sys2Proof
end

