-- ==== Sys2Proof/Laws/State.lean ====
section
/-! SUPPORT. What each update of the state does to each field: one lemma per field per update, true by `rfl`, so that
no later proof unfolds a record update. -/

namespace Sys2Proof.Machine.State

section setLines

variable (s : State) (d c : Level)

@[simp] theorem setLines_sdaOut : (s.setLines d c).sdaOut = d := rfl
@[simp] theorem setLines_sclOut : (s.setLines d c).sclOut = c := rfl
@[simp] theorem setLines_err : (s.setLines d c).err = s.err := rfl
@[simp] theorem setLines_errmsg : (s.setLines d c).errmsg = s.errmsg := rfl
@[simp] theorem setLines_opc : (s.setLines d c).opc = s.opc := rfl
@[simp] theorem setLines_latA : (s.setLines d c).latA = s.latA := rfl
@[simp] theorem setLines_latB : (s.setLines d c).latB = s.latB := rfl
@[simp] theorem setLines_latC : (s.setLines d c).latC = s.latC := rfl
@[simp] theorem setLines_seq : (s.setLines d c).seq = s.seq := rfl
@[simp] theorem setLines_cause : (s.setLines d c).cause = s.cause := rfl
@[simp] theorem setLines_ackr : (s.setLines d c).ackr = s.ackr := rfl
@[simp] theorem setLines_rxd0 : (s.setLines d c).rxd0 = s.rxd0 := rfl
@[simp] theorem setLines_rxd1 : (s.setLines d c).rxd1 = s.rxd1 := rfl
@[simp] theorem setLines_scancnt : (s.setLines d c).scancnt = s.scancnt := rfl
@[simp] theorem setLines_scanlist : (s.setLines d c).scanlist = s.scanlist := rfl
@[simp] theorem setLines_rstIn : (s.setLines d c).rstIn = s.rstIn := rfl
@[simp] theorem setLines_port : (s.setLines d c).port = s.port := rfl
@[simp] theorem setLines_envSda : (s.setLines d c).envSda = s.envSda := rfl
@[simp] theorem setLines_envScl : (s.setLines d c).envScl = s.envScl := rfl
@[simp] theorem setLines_sdaReads : (s.setLines d c).sdaReads = s.sdaReads := rfl
@[simp] theorem setLines_sclPolls : (s.setLines d c).sclPolls = s.sclPolls := rfl
@[simp] theorem setLines_freeNext : (s.setLines d c).freeNext = s.freeNext := rfl
@[simp] theorem setLines_trace : (s.setLines d c).trace = s.trace ++ [.wr d c] := rfl

end setLines

section addSample

variable (s : State) (v : Level)

@[simp] theorem addSample_sdaOut : (s.addSample v).sdaOut = s.sdaOut := rfl
@[simp] theorem addSample_sclOut : (s.addSample v).sclOut = s.sclOut := rfl
@[simp] theorem addSample_err : (s.addSample v).err = s.err := rfl
@[simp] theorem addSample_errmsg : (s.addSample v).errmsg = s.errmsg := rfl
@[simp] theorem addSample_opc : (s.addSample v).opc = s.opc := rfl
@[simp] theorem addSample_latA : (s.addSample v).latA = s.latA := rfl
@[simp] theorem addSample_latB : (s.addSample v).latB = s.latB := rfl
@[simp] theorem addSample_latC : (s.addSample v).latC = s.latC := rfl
@[simp] theorem addSample_seq : (s.addSample v).seq = s.seq := rfl
@[simp] theorem addSample_cause : (s.addSample v).cause = s.cause := rfl
@[simp] theorem addSample_ackr : (s.addSample v).ackr = s.ackr := rfl
@[simp] theorem addSample_rxd0 : (s.addSample v).rxd0 = s.rxd0 := rfl
@[simp] theorem addSample_rxd1 : (s.addSample v).rxd1 = s.rxd1 := rfl
@[simp] theorem addSample_scancnt : (s.addSample v).scancnt = s.scancnt := rfl
@[simp] theorem addSample_scanlist : (s.addSample v).scanlist = s.scanlist := rfl
@[simp] theorem addSample_rstIn : (s.addSample v).rstIn = s.rstIn := rfl
@[simp] theorem addSample_port : (s.addSample v).port = s.port := rfl
@[simp] theorem addSample_envSda : (s.addSample v).envSda = s.envSda := rfl
@[simp] theorem addSample_envScl : (s.addSample v).envScl = s.envScl := rfl
@[simp] theorem addSample_sdaReads : (s.addSample v).sdaReads = s.sdaReads + 1 := rfl
@[simp] theorem addSample_sclPolls : (s.addSample v).sclPolls = s.sclPolls := rfl
@[simp] theorem addSample_freeNext : (s.addSample v).freeNext = s.freeNext := rfl
@[simp] theorem addSample_trace : (s.addSample v).trace = s.trace ++ [.sm v] := rfl

end addSample

section addPoll

variable (s : State)

@[simp] theorem addPoll_sdaOut : s.addPoll.sdaOut = s.sdaOut := rfl
@[simp] theorem addPoll_sclOut : s.addPoll.sclOut = s.sclOut := rfl
@[simp] theorem addPoll_err : s.addPoll.err = s.err := rfl
@[simp] theorem addPoll_errmsg : s.addPoll.errmsg = s.errmsg := rfl
@[simp] theorem addPoll_opc : s.addPoll.opc = s.opc := rfl
@[simp] theorem addPoll_latA : s.addPoll.latA = s.latA := rfl
@[simp] theorem addPoll_latB : s.addPoll.latB = s.latB := rfl
@[simp] theorem addPoll_latC : s.addPoll.latC = s.latC := rfl
@[simp] theorem addPoll_seq : s.addPoll.seq = s.seq := rfl
@[simp] theorem addPoll_cause : s.addPoll.cause = s.cause := rfl
@[simp] theorem addPoll_ackr : s.addPoll.ackr = s.ackr := rfl
@[simp] theorem addPoll_rxd0 : s.addPoll.rxd0 = s.rxd0 := rfl
@[simp] theorem addPoll_rxd1 : s.addPoll.rxd1 = s.rxd1 := rfl
@[simp] theorem addPoll_scancnt : s.addPoll.scancnt = s.scancnt := rfl
@[simp] theorem addPoll_scanlist : s.addPoll.scanlist = s.scanlist := rfl
@[simp] theorem addPoll_rstIn : s.addPoll.rstIn = s.rstIn := rfl
@[simp] theorem addPoll_port : s.addPoll.port = s.port := rfl
@[simp] theorem addPoll_envSda : s.addPoll.envSda = s.envSda := rfl
@[simp] theorem addPoll_envScl : s.addPoll.envScl = s.envScl := rfl
@[simp] theorem addPoll_sdaReads : s.addPoll.sdaReads = s.sdaReads := rfl
@[simp] theorem addPoll_sclPolls : s.addPoll.sclPolls = s.sclPolls + 1 := rfl
@[simp] theorem addPoll_freeNext : s.addPoll.freeNext = s.freeNext := rfl
@[simp] theorem addPoll_trace : s.addPoll.trace = s.trace := rfl

end addPoll

section addDelay

variable (s : State)

@[simp] theorem addDelay_sdaOut : s.addDelay.sdaOut = s.sdaOut := rfl
@[simp] theorem addDelay_sclOut : s.addDelay.sclOut = s.sclOut := rfl
@[simp] theorem addDelay_err : s.addDelay.err = s.err := rfl
@[simp] theorem addDelay_errmsg : s.addDelay.errmsg = s.errmsg := rfl
@[simp] theorem addDelay_opc : s.addDelay.opc = s.opc := rfl
@[simp] theorem addDelay_latA : s.addDelay.latA = s.latA := rfl
@[simp] theorem addDelay_latB : s.addDelay.latB = s.latB := rfl
@[simp] theorem addDelay_latC : s.addDelay.latC = s.latC := rfl
@[simp] theorem addDelay_seq : s.addDelay.seq = s.seq := rfl
@[simp] theorem addDelay_cause : s.addDelay.cause = s.cause := rfl
@[simp] theorem addDelay_ackr : s.addDelay.ackr = s.ackr := rfl
@[simp] theorem addDelay_rxd0 : s.addDelay.rxd0 = s.rxd0 := rfl
@[simp] theorem addDelay_rxd1 : s.addDelay.rxd1 = s.rxd1 := rfl
@[simp] theorem addDelay_scancnt : s.addDelay.scancnt = s.scancnt := rfl
@[simp] theorem addDelay_scanlist : s.addDelay.scanlist = s.scanlist := rfl
@[simp] theorem addDelay_rstIn : s.addDelay.rstIn = s.rstIn := rfl
@[simp] theorem addDelay_port : s.addDelay.port = s.port := rfl
@[simp] theorem addDelay_envSda : s.addDelay.envSda = s.envSda := rfl
@[simp] theorem addDelay_envScl : s.addDelay.envScl = s.envScl := rfl
@[simp] theorem addDelay_sdaReads : s.addDelay.sdaReads = s.sdaReads := rfl
@[simp] theorem addDelay_sclPolls : s.addDelay.sclPolls = s.sclPolls := rfl
@[simp] theorem addDelay_freeNext : s.addDelay.freeNext = s.freeNext := rfl
@[simp] theorem addDelay_trace : s.addDelay.trace = s.trace ++ [.dl] := rfl

end addDelay

section setError

variable (s : State) (f : Bool) (m : Byte)

@[simp] theorem setError_sdaOut : (s.setError f m).sdaOut = s.sdaOut := rfl
@[simp] theorem setError_sclOut : (s.setError f m).sclOut = s.sclOut := rfl
@[simp] theorem setError_err : (s.setError f m).err = f := rfl
@[simp] theorem setError_errmsg : (s.setError f m).errmsg = m := rfl
@[simp] theorem setError_opc : (s.setError f m).opc = s.opc := rfl
@[simp] theorem setError_latA : (s.setError f m).latA = s.latA := rfl
@[simp] theorem setError_latB : (s.setError f m).latB = s.latB := rfl
@[simp] theorem setError_latC : (s.setError f m).latC = s.latC := rfl
@[simp] theorem setError_seq : (s.setError f m).seq = s.seq := rfl
@[simp] theorem setError_cause : (s.setError f m).cause = s.cause := rfl
@[simp] theorem setError_ackr : (s.setError f m).ackr = s.ackr := rfl
@[simp] theorem setError_rxd0 : (s.setError f m).rxd0 = s.rxd0 := rfl
@[simp] theorem setError_rxd1 : (s.setError f m).rxd1 = s.rxd1 := rfl
@[simp] theorem setError_scancnt : (s.setError f m).scancnt = s.scancnt := rfl
@[simp] theorem setError_scanlist : (s.setError f m).scanlist = s.scanlist := rfl
@[simp] theorem setError_rstIn : (s.setError f m).rstIn = s.rstIn := rfl
@[simp] theorem setError_port : (s.setError f m).port = s.port := rfl
@[simp] theorem setError_envSda : (s.setError f m).envSda = s.envSda := rfl
@[simp] theorem setError_envScl : (s.setError f m).envScl = s.envScl := rfl
@[simp] theorem setError_sdaReads : (s.setError f m).sdaReads = s.sdaReads := rfl
@[simp] theorem setError_sclPolls : (s.setError f m).sclPolls = s.sclPolls := rfl
@[simp] theorem setError_freeNext : (s.setError f m).freeNext = s.freeNext := rfl
@[simp] theorem setError_trace : (s.setError f m).trace = s.trace := rfl

end setError

section setSeq

variable (s : State) (q : Seq)

@[simp] theorem setSeq_sdaOut : (s.setSeq q).sdaOut = s.sdaOut := rfl
@[simp] theorem setSeq_sclOut : (s.setSeq q).sclOut = s.sclOut := rfl
@[simp] theorem setSeq_err : (s.setSeq q).err = s.err := rfl
@[simp] theorem setSeq_errmsg : (s.setSeq q).errmsg = s.errmsg := rfl
@[simp] theorem setSeq_opc : (s.setSeq q).opc = s.opc := rfl
@[simp] theorem setSeq_latA : (s.setSeq q).latA = s.latA := rfl
@[simp] theorem setSeq_latB : (s.setSeq q).latB = s.latB := rfl
@[simp] theorem setSeq_latC : (s.setSeq q).latC = s.latC := rfl
@[simp] theorem setSeq_seq : (s.setSeq q).seq = q := rfl
@[simp] theorem setSeq_cause : (s.setSeq q).cause = s.cause := rfl
@[simp] theorem setSeq_ackr : (s.setSeq q).ackr = s.ackr := rfl
@[simp] theorem setSeq_rxd0 : (s.setSeq q).rxd0 = s.rxd0 := rfl
@[simp] theorem setSeq_rxd1 : (s.setSeq q).rxd1 = s.rxd1 := rfl
@[simp] theorem setSeq_scancnt : (s.setSeq q).scancnt = s.scancnt := rfl
@[simp] theorem setSeq_scanlist : (s.setSeq q).scanlist = s.scanlist := rfl
@[simp] theorem setSeq_rstIn : (s.setSeq q).rstIn = s.rstIn := rfl
@[simp] theorem setSeq_port : (s.setSeq q).port = s.port := rfl
@[simp] theorem setSeq_envSda : (s.setSeq q).envSda = s.envSda := rfl
@[simp] theorem setSeq_envScl : (s.setSeq q).envScl = s.envScl := rfl
@[simp] theorem setSeq_sdaReads : (s.setSeq q).sdaReads = s.sdaReads := rfl
@[simp] theorem setSeq_sclPolls : (s.setSeq q).sclPolls = s.sclPolls := rfl
@[simp] theorem setSeq_freeNext : (s.setSeq q).freeNext = s.freeNext := rfl
@[simp] theorem setSeq_trace : (s.setSeq q).trace = s.trace := rfl

end setSeq

section setCause

variable (s : State) (c : Cause)

@[simp] theorem setCause_sdaOut : (s.setCause c).sdaOut = s.sdaOut := rfl
@[simp] theorem setCause_sclOut : (s.setCause c).sclOut = s.sclOut := rfl
@[simp] theorem setCause_err : (s.setCause c).err = s.err := rfl
@[simp] theorem setCause_errmsg : (s.setCause c).errmsg = s.errmsg := rfl
@[simp] theorem setCause_opc : (s.setCause c).opc = s.opc := rfl
@[simp] theorem setCause_latA : (s.setCause c).latA = s.latA := rfl
@[simp] theorem setCause_latB : (s.setCause c).latB = s.latB := rfl
@[simp] theorem setCause_latC : (s.setCause c).latC = s.latC := rfl
@[simp] theorem setCause_seq : (s.setCause c).seq = s.seq := rfl
@[simp] theorem setCause_cause : (s.setCause c).cause = c := rfl
@[simp] theorem setCause_ackr : (s.setCause c).ackr = s.ackr := rfl
@[simp] theorem setCause_rxd0 : (s.setCause c).rxd0 = s.rxd0 := rfl
@[simp] theorem setCause_rxd1 : (s.setCause c).rxd1 = s.rxd1 := rfl
@[simp] theorem setCause_scancnt : (s.setCause c).scancnt = s.scancnt := rfl
@[simp] theorem setCause_scanlist : (s.setCause c).scanlist = s.scanlist := rfl
@[simp] theorem setCause_rstIn : (s.setCause c).rstIn = s.rstIn := rfl
@[simp] theorem setCause_port : (s.setCause c).port = s.port := rfl
@[simp] theorem setCause_envSda : (s.setCause c).envSda = s.envSda := rfl
@[simp] theorem setCause_envScl : (s.setCause c).envScl = s.envScl := rfl
@[simp] theorem setCause_sdaReads : (s.setCause c).sdaReads = s.sdaReads := rfl
@[simp] theorem setCause_sclPolls : (s.setCause c).sclPolls = s.sclPolls := rfl
@[simp] theorem setCause_freeNext : (s.setCause c).freeNext = s.freeNext := rfl
@[simp] theorem setCause_trace : (s.setCause c).trace = s.trace := rfl

end setCause

section setAckr

variable (s : State) (b : Bool)

@[simp] theorem setAckr_sdaOut : (s.setAckr b).sdaOut = s.sdaOut := rfl
@[simp] theorem setAckr_sclOut : (s.setAckr b).sclOut = s.sclOut := rfl
@[simp] theorem setAckr_err : (s.setAckr b).err = s.err := rfl
@[simp] theorem setAckr_errmsg : (s.setAckr b).errmsg = s.errmsg := rfl
@[simp] theorem setAckr_opc : (s.setAckr b).opc = s.opc := rfl
@[simp] theorem setAckr_latA : (s.setAckr b).latA = s.latA := rfl
@[simp] theorem setAckr_latB : (s.setAckr b).latB = s.latB := rfl
@[simp] theorem setAckr_latC : (s.setAckr b).latC = s.latC := rfl
@[simp] theorem setAckr_seq : (s.setAckr b).seq = s.seq := rfl
@[simp] theorem setAckr_cause : (s.setAckr b).cause = s.cause := rfl
@[simp] theorem setAckr_ackr : (s.setAckr b).ackr = b := rfl
@[simp] theorem setAckr_rxd0 : (s.setAckr b).rxd0 = s.rxd0 := rfl
@[simp] theorem setAckr_rxd1 : (s.setAckr b).rxd1 = s.rxd1 := rfl
@[simp] theorem setAckr_scancnt : (s.setAckr b).scancnt = s.scancnt := rfl
@[simp] theorem setAckr_scanlist : (s.setAckr b).scanlist = s.scanlist := rfl
@[simp] theorem setAckr_rstIn : (s.setAckr b).rstIn = s.rstIn := rfl
@[simp] theorem setAckr_port : (s.setAckr b).port = s.port := rfl
@[simp] theorem setAckr_envSda : (s.setAckr b).envSda = s.envSda := rfl
@[simp] theorem setAckr_envScl : (s.setAckr b).envScl = s.envScl := rfl
@[simp] theorem setAckr_sdaReads : (s.setAckr b).sdaReads = s.sdaReads := rfl
@[simp] theorem setAckr_sclPolls : (s.setAckr b).sclPolls = s.sclPolls := rfl
@[simp] theorem setAckr_freeNext : (s.setAckr b).freeNext = s.freeNext := rfl
@[simp] theorem setAckr_trace : (s.setAckr b).trace = s.trace := rfl

end setAckr

section setRxd0

variable (s : State) (b : Byte)

@[simp] theorem setRxd0_sdaOut : (s.setRxd0 b).sdaOut = s.sdaOut := rfl
@[simp] theorem setRxd0_sclOut : (s.setRxd0 b).sclOut = s.sclOut := rfl
@[simp] theorem setRxd0_err : (s.setRxd0 b).err = s.err := rfl
@[simp] theorem setRxd0_errmsg : (s.setRxd0 b).errmsg = s.errmsg := rfl
@[simp] theorem setRxd0_opc : (s.setRxd0 b).opc = s.opc := rfl
@[simp] theorem setRxd0_latA : (s.setRxd0 b).latA = s.latA := rfl
@[simp] theorem setRxd0_latB : (s.setRxd0 b).latB = s.latB := rfl
@[simp] theorem setRxd0_latC : (s.setRxd0 b).latC = s.latC := rfl
@[simp] theorem setRxd0_seq : (s.setRxd0 b).seq = s.seq := rfl
@[simp] theorem setRxd0_cause : (s.setRxd0 b).cause = s.cause := rfl
@[simp] theorem setRxd0_ackr : (s.setRxd0 b).ackr = s.ackr := rfl
@[simp] theorem setRxd0_rxd0 : (s.setRxd0 b).rxd0 = b := rfl
@[simp] theorem setRxd0_rxd1 : (s.setRxd0 b).rxd1 = s.rxd1 := rfl
@[simp] theorem setRxd0_scancnt : (s.setRxd0 b).scancnt = s.scancnt := rfl
@[simp] theorem setRxd0_scanlist : (s.setRxd0 b).scanlist = s.scanlist := rfl
@[simp] theorem setRxd0_rstIn : (s.setRxd0 b).rstIn = s.rstIn := rfl
@[simp] theorem setRxd0_port : (s.setRxd0 b).port = s.port := rfl
@[simp] theorem setRxd0_envSda : (s.setRxd0 b).envSda = s.envSda := rfl
@[simp] theorem setRxd0_envScl : (s.setRxd0 b).envScl = s.envScl := rfl
@[simp] theorem setRxd0_sdaReads : (s.setRxd0 b).sdaReads = s.sdaReads := rfl
@[simp] theorem setRxd0_sclPolls : (s.setRxd0 b).sclPolls = s.sclPolls := rfl
@[simp] theorem setRxd0_freeNext : (s.setRxd0 b).freeNext = s.freeNext := rfl
@[simp] theorem setRxd0_trace : (s.setRxd0 b).trace = s.trace := rfl

end setRxd0

section setRxd1

variable (s : State) (b : Byte)

@[simp] theorem setRxd1_sdaOut : (s.setRxd1 b).sdaOut = s.sdaOut := rfl
@[simp] theorem setRxd1_sclOut : (s.setRxd1 b).sclOut = s.sclOut := rfl
@[simp] theorem setRxd1_err : (s.setRxd1 b).err = s.err := rfl
@[simp] theorem setRxd1_errmsg : (s.setRxd1 b).errmsg = s.errmsg := rfl
@[simp] theorem setRxd1_opc : (s.setRxd1 b).opc = s.opc := rfl
@[simp] theorem setRxd1_latA : (s.setRxd1 b).latA = s.latA := rfl
@[simp] theorem setRxd1_latB : (s.setRxd1 b).latB = s.latB := rfl
@[simp] theorem setRxd1_latC : (s.setRxd1 b).latC = s.latC := rfl
@[simp] theorem setRxd1_seq : (s.setRxd1 b).seq = s.seq := rfl
@[simp] theorem setRxd1_cause : (s.setRxd1 b).cause = s.cause := rfl
@[simp] theorem setRxd1_ackr : (s.setRxd1 b).ackr = s.ackr := rfl
@[simp] theorem setRxd1_rxd0 : (s.setRxd1 b).rxd0 = s.rxd0 := rfl
@[simp] theorem setRxd1_rxd1 : (s.setRxd1 b).rxd1 = b := rfl
@[simp] theorem setRxd1_scancnt : (s.setRxd1 b).scancnt = s.scancnt := rfl
@[simp] theorem setRxd1_scanlist : (s.setRxd1 b).scanlist = s.scanlist := rfl
@[simp] theorem setRxd1_rstIn : (s.setRxd1 b).rstIn = s.rstIn := rfl
@[simp] theorem setRxd1_port : (s.setRxd1 b).port = s.port := rfl
@[simp] theorem setRxd1_envSda : (s.setRxd1 b).envSda = s.envSda := rfl
@[simp] theorem setRxd1_envScl : (s.setRxd1 b).envScl = s.envScl := rfl
@[simp] theorem setRxd1_sdaReads : (s.setRxd1 b).sdaReads = s.sdaReads := rfl
@[simp] theorem setRxd1_sclPolls : (s.setRxd1 b).sclPolls = s.sclPolls := rfl
@[simp] theorem setRxd1_freeNext : (s.setRxd1 b).freeNext = s.freeNext := rfl
@[simp] theorem setRxd1_trace : (s.setRxd1 b).trace = s.trace := rfl

end setRxd1

section setScan

variable (s : State) (n : BitVec 4) (l : Vector Byte 8)

@[simp] theorem setScan_sdaOut : (s.setScan n l).sdaOut = s.sdaOut := rfl
@[simp] theorem setScan_sclOut : (s.setScan n l).sclOut = s.sclOut := rfl
@[simp] theorem setScan_err : (s.setScan n l).err = s.err := rfl
@[simp] theorem setScan_errmsg : (s.setScan n l).errmsg = s.errmsg := rfl
@[simp] theorem setScan_opc : (s.setScan n l).opc = s.opc := rfl
@[simp] theorem setScan_latA : (s.setScan n l).latA = s.latA := rfl
@[simp] theorem setScan_latB : (s.setScan n l).latB = s.latB := rfl
@[simp] theorem setScan_latC : (s.setScan n l).latC = s.latC := rfl
@[simp] theorem setScan_seq : (s.setScan n l).seq = s.seq := rfl
@[simp] theorem setScan_cause : (s.setScan n l).cause = s.cause := rfl
@[simp] theorem setScan_ackr : (s.setScan n l).ackr = s.ackr := rfl
@[simp] theorem setScan_rxd0 : (s.setScan n l).rxd0 = s.rxd0 := rfl
@[simp] theorem setScan_rxd1 : (s.setScan n l).rxd1 = s.rxd1 := rfl
@[simp] theorem setScan_scancnt : (s.setScan n l).scancnt = n := rfl
@[simp] theorem setScan_scanlist : (s.setScan n l).scanlist = l := rfl
@[simp] theorem setScan_rstIn : (s.setScan n l).rstIn = s.rstIn := rfl
@[simp] theorem setScan_port : (s.setScan n l).port = s.port := rfl
@[simp] theorem setScan_envSda : (s.setScan n l).envSda = s.envSda := rfl
@[simp] theorem setScan_envScl : (s.setScan n l).envScl = s.envScl := rfl
@[simp] theorem setScan_sdaReads : (s.setScan n l).sdaReads = s.sdaReads := rfl
@[simp] theorem setScan_sclPolls : (s.setScan n l).sclPolls = s.sclPolls := rfl
@[simp] theorem setScan_freeNext : (s.setScan n l).freeNext = s.freeNext + 8 := rfl
@[simp] theorem setScan_trace : (s.setScan n l).trace = s.trace := rfl

end setScan

section setLatches

variable (s : State) (o : BitVec 4) (a b c : Byte)

@[simp] theorem setLatches_sdaOut : (s.setLatches o a b c).sdaOut = s.sdaOut := rfl
@[simp] theorem setLatches_sclOut : (s.setLatches o a b c).sclOut = s.sclOut := rfl
@[simp] theorem setLatches_err : (s.setLatches o a b c).err = s.err := rfl
@[simp] theorem setLatches_errmsg : (s.setLatches o a b c).errmsg = s.errmsg := rfl
@[simp] theorem setLatches_opc : (s.setLatches o a b c).opc = o := rfl
@[simp] theorem setLatches_latA : (s.setLatches o a b c).latA = a := rfl
@[simp] theorem setLatches_latB : (s.setLatches o a b c).latB = b := rfl
@[simp] theorem setLatches_latC : (s.setLatches o a b c).latC = c := rfl
@[simp] theorem setLatches_seq : (s.setLatches o a b c).seq = s.seq := rfl
@[simp] theorem setLatches_cause : (s.setLatches o a b c).cause = s.cause := rfl
@[simp] theorem setLatches_ackr : (s.setLatches o a b c).ackr = s.ackr := rfl
@[simp] theorem setLatches_rxd0 : (s.setLatches o a b c).rxd0 = s.rxd0 := rfl
@[simp] theorem setLatches_rxd1 : (s.setLatches o a b c).rxd1 = s.rxd1 := rfl
@[simp] theorem setLatches_scancnt : (s.setLatches o a b c).scancnt = s.scancnt := rfl
@[simp] theorem setLatches_scanlist : (s.setLatches o a b c).scanlist = s.scanlist := rfl
@[simp] theorem setLatches_rstIn : (s.setLatches o a b c).rstIn = s.rstIn := rfl
@[simp] theorem setLatches_port : (s.setLatches o a b c).port = s.port := rfl
@[simp] theorem setLatches_envSda : (s.setLatches o a b c).envSda = s.envSda := rfl
@[simp] theorem setLatches_envScl : (s.setLatches o a b c).envScl = s.envScl := rfl
@[simp] theorem setLatches_sdaReads : (s.setLatches o a b c).sdaReads = s.sdaReads := rfl
@[simp] theorem setLatches_sclPolls : (s.setLatches o a b c).sclPolls = s.sclPolls := rfl
@[simp] theorem setLatches_freeNext : (s.setLatches o a b c).freeNext = s.freeNext := rfl
@[simp] theorem setLatches_trace : (s.setLatches o a b c).trace = s.trace := rfl

end setLatches

section setPort

variable (s : State) (ws : List CmdWord)

@[simp] theorem setPort_sdaOut : (s.setPort ws).sdaOut = s.sdaOut := rfl
@[simp] theorem setPort_sclOut : (s.setPort ws).sclOut = s.sclOut := rfl
@[simp] theorem setPort_err : (s.setPort ws).err = s.err := rfl
@[simp] theorem setPort_errmsg : (s.setPort ws).errmsg = s.errmsg := rfl
@[simp] theorem setPort_opc : (s.setPort ws).opc = s.opc := rfl
@[simp] theorem setPort_latA : (s.setPort ws).latA = s.latA := rfl
@[simp] theorem setPort_latB : (s.setPort ws).latB = s.latB := rfl
@[simp] theorem setPort_latC : (s.setPort ws).latC = s.latC := rfl
@[simp] theorem setPort_seq : (s.setPort ws).seq = s.seq := rfl
@[simp] theorem setPort_cause : (s.setPort ws).cause = s.cause := rfl
@[simp] theorem setPort_ackr : (s.setPort ws).ackr = s.ackr := rfl
@[simp] theorem setPort_rxd0 : (s.setPort ws).rxd0 = s.rxd0 := rfl
@[simp] theorem setPort_rxd1 : (s.setPort ws).rxd1 = s.rxd1 := rfl
@[simp] theorem setPort_scancnt : (s.setPort ws).scancnt = s.scancnt := rfl
@[simp] theorem setPort_scanlist : (s.setPort ws).scanlist = s.scanlist := rfl
@[simp] theorem setPort_rstIn : (s.setPort ws).rstIn = s.rstIn := rfl
@[simp] theorem setPort_port : (s.setPort ws).port = ws := rfl
@[simp] theorem setPort_envSda : (s.setPort ws).envSda = s.envSda := rfl
@[simp] theorem setPort_envScl : (s.setPort ws).envScl = s.envScl := rfl
@[simp] theorem setPort_sdaReads : (s.setPort ws).sdaReads = s.sdaReads := rfl
@[simp] theorem setPort_sclPolls : (s.setPort ws).sclPolls = s.sclPolls := rfl
@[simp] theorem setPort_freeNext : (s.setPort ws).freeNext = s.freeNext := rfl
@[simp] theorem setPort_trace : (s.setPort ws).trace = s.trace := rfl

end setPort

end Sys2Proof.Machine.State
end

