-- ==== Sys2Proof/Laws/Ops.lean ====
section
/-! SUPPORT. What each shared operation can do, said once: the environment's answers, an attempt at a micro-operation,
completion, acceptance and reset. -/

namespace Sys2Proof.Machine

variable {s t : State} {op : MicroOp} {waiting : Bool} {xs ys : List Level}

/-! ## The environment's answers depend on its plan and on how far it has been read -/

@[simp] theorem sdaAnswer_setLines (d c : Level) (j : Nat) : (s.setLines d c).sdaAnswer j = s.sdaAnswer j := rfl
@[simp] theorem sclAnswer_setLines (d c : Level) (j : Nat) : (s.setLines d c).sclAnswer j = s.sclAnswer j := rfl
@[simp] theorem sdaAnswer_addPoll (j : Nat) : s.addPoll.sdaAnswer j = s.sdaAnswer j := rfl
@[simp] theorem sclAnswer_addSample (v : Level) (j : Nat) : (s.addSample v).sclAnswer j = s.sclAnswer j := rfl
@[simp] theorem sdaAnswer_addDelay (j : Nat) : s.addDelay.sdaAnswer j = s.sdaAnswer j := rfl
@[simp] theorem sclAnswer_addDelay (j : Nat) : s.addDelay.sclAnswer j = s.sclAnswer j := rfl
@[simp] theorem sdaAnswer_setError (f : Bool) (m : Byte) (j : Nat) :
    (s.setError f m).sdaAnswer j = s.sdaAnswer j := rfl
@[simp] theorem sclAnswer_setError (f : Bool) (m : Byte) (j : Nat) :
    (s.setError f m).sclAnswer j = s.sclAnswer j := rfl

theorem sdaAnswer_addSample (v : Level) (j : Nat) : (s.addSample v).sdaAnswer j = s.sdaAnswer (1 + j) := by
  simp only [State.sdaAnswer, State.addSample_sdaReads, Nat.add_assoc]; rfl

theorem sclAnswer_addPoll (j : Nat) : s.addPoll.sclAnswer j = s.sclAnswer (1 + j) := by
  simp only [State.sclAnswer, State.addPoll_sclPolls, Nat.add_assoc]; rfl

/-! ## An attempt at a micro-operation -/

/-- Between `s` and `t` only what the bus procedures write has changed: the lines, the error state, the counts of
samples and polls, and the trace. -/
def BusOnly (s t : State) : Prop :=
  t = { s with
    sdaOut := t.sdaOut, sclOut := t.sclOut, err := t.err, errmsg := t.errmsg, sdaReads := t.sdaReads,
    sclPolls := t.sclPolls, trace := t.trace }

theorem BusOnly.refl (s : State) : BusOnly s s := rfl

theorem BusOnly.trans {u : State} (h : BusOnly s t) (h' : BusOnly t u) : BusOnly s u := by
  unfold BusOnly at *; rw [h', h]

theorem pollClock_high (h : s.sclLevel = true) : pollClock xs s = .done xs s.addPoll := by simp [pollClock, h]

theorem pollClock_low (h : s.sclLevel = false) : pollClock xs s = .held s.addPoll := by simp [pollClock, h]

theorem sclLevel_setLines_high (d : Level) : (s.setLines d true).sclLevel = s.sclAnswer 0 := by
  simp [State.sclLevel]

theorem attempt_waiting : attempt op true xs s = pollClock xs s := rfl

theorem attempt_rise (d : Level) : attempt (.w d true) false xs s = pollClock xs (s.setLines d true) := rfl

theorem attempt_low (d : Level) : attempt (.w d false) false xs s = .done xs (s.setLines d false) := rfl

theorem attempt_sample : attempt .s false xs s = .done (xs ++ [s.sdaLevel]) (s.addSample s.sdaLevel) := rfl

theorem attempt_ackEnd (e : Byte) :
    attempt (.ackEnd e) false xs s = .done xs (recordAck e (xs.getLastD true) (s.setLines true false)) := rfl

theorem attempt_delay : attempt .delay false xs s = .done xs s.addDelay := rfl

/-- Held: the clock read 0, at a repeated poll or after a write that released the clock. -/
theorem attempt_held (h : attempt op waiting xs s = .held t) :
    (waiting = true ∧ s.sclLevel = false ∧ t = s.addPoll) ∨
    (waiting = false ∧ ∃ d, op = .w d true ∧ s.sclAnswer 0 = false ∧ t = (s.setLines d true).addPoll) := by
  cases waiting with
  | true =>
    cases hl : s.sclLevel with
    | true => rw [attempt_waiting, pollClock_high hl] at h; cases h
    | false => rw [attempt_waiting, pollClock_low hl] at h; cases h; exact .inl ⟨rfl, rfl, rfl⟩
  | false =>
    rcases op with ⟨d, _ | _⟩ | _ | e | _
    · cases h
    · cases hl : s.sclAnswer 0 with
      | true => rw [attempt_rise, pollClock_high ((sclLevel_setLines_high d).trans hl)] at h; cases h
      | false =>
        rw [attempt_rise, pollClock_low ((sclLevel_setLines_high d).trans hl)] at h
        cases h; exact .inr ⟨rfl, d, rfl, rfl, rfl⟩
    · cases h
    · cases h
    · cases h

/-- Done: everything a completed micro-operation can have been. -/
theorem attempt_done (h : attempt op waiting xs s = .done ys t) :
    (waiting = true ∧ s.sclLevel = true ∧ ys = xs ∧ t = s.addPoll) ∨
    (waiting = false ∧
      ((∃ d, op = .w d true ∧ s.sclAnswer 0 = true ∧ ys = xs ∧ t = (s.setLines d true).addPoll) ∨
       (∃ d, op = .w d false ∧ ys = xs ∧ t = s.setLines d false) ∨
       (op = .s ∧ ys = xs ++ [s.sdaLevel] ∧ t = s.addSample s.sdaLevel) ∨
       (∃ e, op = .ackEnd e ∧ ys = xs ∧ t = recordAck e (xs.getLastD true) (s.setLines true false)) ∨
       (op = .delay ∧ ys = xs ∧ t = s.addDelay))) := by
  cases waiting with
  | true =>
    cases hl : s.sclLevel with
    | true => rw [attempt_waiting, pollClock_high hl] at h; cases h; exact .inl ⟨rfl, rfl, rfl, rfl⟩
    | false => rw [attempt_waiting, pollClock_low hl] at h; cases h
  | false =>
    refine .inr ⟨rfl, ?_⟩
    rcases op with ⟨d, _ | _⟩ | _ | e | _
    · cases h; exact .inr (.inl ⟨d, rfl, rfl, rfl⟩)
    · cases hl : s.sclAnswer 0 with
      | true =>
        rw [attempt_rise, pollClock_high ((sclLevel_setLines_high d).trans hl)] at h
        cases h; exact .inl ⟨d, rfl, rfl, rfl, rfl⟩
      | false => rw [attempt_rise, pollClock_low ((sclLevel_setLines_high d).trans hl)] at h; cases h
    · cases h; exact .inr (.inr (.inl ⟨rfl, rfl, rfl⟩))
    · cases h; exact .inr (.inr (.inr (.inl ⟨e, rfl, rfl, rfl⟩)))
    · cases h; exact .inr (.inr (.inr (.inr ⟨rfl, rfl, rfl⟩)))

theorem attempt_held_busOnly (h : attempt op waiting xs s = .held t) : BusOnly s t := by
  obtain ⟨-, -, rfl⟩ | ⟨-, d, -, -, rfl⟩ := attempt_held h <;> rfl

theorem attempt_done_busOnly (h : attempt op waiting xs s = .done ys t) : BusOnly s t := by
  obtain ⟨-, -, -, rfl⟩ | ⟨-, ⟨d, -, -, -, rfl⟩ | ⟨d, -, -, rfl⟩ | ⟨-, -, rfl⟩ | ⟨e, -, -, rfl⟩ | ⟨-, -, rfl⟩⟩ :=
    attempt_done h <;> rfl

/-! ## Completion, acceptance, reset -/

theorem complete_eq (c : Cause) : complete c s = { s with cause := c, seq := .idle } := rfl

theorem illegalCommand_eq : illegalCommand s = { s with cause := .illegalCommand, seq := .idle } := rfl

theorem accept_eq (w : CmdWord) (rest : List CmdWord) :
    accept w rest s =
      { s with port := rest, opc := opcField w, latA := aField w, latB := bField w, latC := cField w } := rfl

/-- Reset keeps the plans and counts of the outside world and nothing of the block's own. -/
theorem applyReset_eq :
    applyReset s =
      { resetValues s.freeNext with
        port := s.port, envSda := s.envSda, envScl := s.envScl, sdaReads := s.sdaReads, sclPolls := s.sclPolls } := rfl

theorem busy_eq_false : s.busy = false ↔ s.seq = .idle := by simp [State.busy]

theorem busy_eq_true : s.busy = true ↔ s.seq ≠ .idle := by simp [State.busy]

end Sys2Proof.Machine
end

