-- ==== Sys2Proof/Laws/PerInstr.lean ====
section
/-! SUPPORT. One lemma per command, by families of LAWS.json. `EncodeFields`: a command's word carries its opcode in
bits 31:28 and zero in bits 27:24 (R80, R82). -/

namespace Sys2Proof.Laws.EncodeFields

/-- The opcode and the reserved field of a command's word. -/
def Statement (i : Instr) : Prop := opcField (encode i) = opcodeOf i ∧ zField (encode i) = 0

theorem start : Statement .start := by simp [Statement, encode]
theorem stop : Statement .stop := by simp [Statement, encode]
theorem send (byte : Byte) : Statement (.send byte) := by simp [Statement, encode]
theorem read : Statement .read := by simp [Statement, encode]
theorem ack (e : Byte) : Statement (.ack e) := by simp [Statement, encode]
theorem sendAck : Statement .sendAck := by simp [Statement, encode]
theorem sendNack : Statement .sendNack := by simp [Statement, encode]
theorem scan (first : Byte) : Statement (.scan first) := by simp [Statement, encode]
theorem writeReg (addr : Addr7) (reg value : Byte) : Statement (.writeReg addr reg value) := by
  simp [Statement, encode]
theorem readReg (addr : Addr7) (reg : Byte) : Statement (.readReg addr reg) := by simp [Statement, encode]
theorem readRegWord (addr : Addr7) (reg : Byte) : Statement (.readRegWord addr reg) := by simp [Statement, encode]

end Sys2Proof.Laws.EncodeFields
end

