-- ==== Sys2Proof/Laws/Sequencer.lean ====
section
/-! SUPPORT. What a run of a command can do: one rule for reasoning about it, what it leaves alone, and its exact result
when the clock is released at every wait. -/

namespace Sys2Proof.Machine

/-! ## The rule of a run -/

/-- To show `Q` of a run's result, give what holds before each micro-operation: it gives `Q` at completion, `Q` at a
hold, and is kept by each micro-operation done. -/
theorem runOps_rule {i : Instr} (P : List MicroOp → Nat → Bool → List Level → State → Prop) (Q : State → Prop)
    (finished : ∀ k w xs s, P [] k w xs s → Q (finish i xs s))
    (held : ∀ op ops k w xs s t, P (op :: ops) k w xs s → attempt op w xs s = .held t →
      Q (t.setSeq (.running i k true xs)))
    (done : ∀ op ops k w xs s ys t, P (op :: ops) k w xs s → attempt op w xs s = .done ys t →
      P ops (k + 1) false ys t)
    (ops : List MicroOp) (k : Nat) (w : Bool) (xs : List Level) (s : State) (start : P ops k w xs s) :
    Q (runOps i ops k w xs s) := by
  induction ops generalizing k w xs s with
  | nil => exact finished k w xs s start
  | cons op ops ih =>
    rw [runOps]
    split
    · exact held op ops k w xs s _ start ‹_›
    · exact ih _ _ _ _ (done op ops k w xs s _ _ start ‹_›)

/-- A run ends at completion or held, and up to there only what the bus procedures write has changed. -/
theorem runOps_cases (i : Instr) (ops : List MicroOp) (k : Nat) (w : Bool) (xs : List Level) (s : State) :
    (∃ ys t, BusOnly s t ∧ runOps i ops k w xs s = finish i ys t) ∨
    (∃ n ys t, BusOnly s t ∧ runOps i ops k w xs s = t.setSeq (.running i n true ys)) :=
  runOps_rule (fun _ _ _ _ t => BusOnly s t)
    (fun r => (∃ ys t, BusOnly s t ∧ r = finish i ys t) ∨
      (∃ n ys t, BusOnly s t ∧ r = t.setSeq (.running i n true ys)))
    (fun _ _ ys t h => .inl ⟨ys, t, h, rfl⟩)
    (fun _ _ n _ ys _ t h ht => .inr ⟨n, ys, t, h.trans (attempt_held_busOnly ht), rfl⟩)
    (fun _ _ _ _ _ _ _ _ h ht => h.trans (attempt_done_busOnly ht))
    ops k w xs s (BusOnly.refl s)

theorem finish_seq (i : Instr) (xs : List Level) (s : State) : (finish i xs s).seq = .idle := by cases i <;> rfl

theorem finish_busy (i : Instr) (xs : List Level) (s : State) : (finish i xs s).busy = false :=
  busy_eq_false.2 (finish_seq i xs s)

theorem setSeq_running_busy (s : State) (i : Instr) (k : Nat) (xs : List Level) :
    (s.setSeq (.running i k true xs)).busy = true := by simp [busy_eq_true]

/-- Executing a well-formed command is running its list. -/
theorem exec_eq_runCommand {i : Instr} (h : i.wf = true) (s : State) : exec i s = .next (runCommand i s) := by
  cases i <;> simp_all [exec, execStart, execStop, execSend, execRead, execAck, execSendAck, execSendNack, execScan,
    execWriteReg, execReadReg, execReadRegWord]

/-! ## The clock released at every wait -/

/-- How many micro-operations of a list wait for the clock (R54). -/
def waitCount : List MicroOp → Nat
  | [] => 0
  | .w _ true :: ops => waitCount ops + 1
  | .w _ false :: ops => waitCount ops
  | .s :: ops => waitCount ops
  | .ackEnd _ :: ops => waitCount ops
  | .delay :: ops => waitCount ops

/-- One micro-operation whose wait, if it has one, returns at the first poll. -/
def released (op : MicroOp) (p : List Level × State) : List Level × State :=
  match op with
  | .w d true => (p.1, (p.2.setLines d true).addPoll)
  | .w d false => (p.1, p.2.setLines d false)
  | .s => (p.1 ++ [p.2.sdaLevel], p.2.addSample p.2.sdaLevel)
  | .ackEnd e => (p.1, recordAck e (p.1.getLastD true) (p.2.setLines true false))
  | .delay => (p.1, p.2.addDelay)

/-- A list of micro-operations none of which is held. -/
def releasedAll (ops : List MicroOp) (p : List Level × State) : List Level × State :=
  ops.foldl (fun q op => released op q) p

theorem releasedAll_append (a b : List MicroOp) (p : List Level × State) :
    releasedAll (a ++ b) p = releasedAll b (releasedAll a p) := List.foldl_append

@[simp] theorem waitCount_append (a b : List MicroOp) : waitCount (a ++ b) = waitCount a + waitCount b := by
  induction a with
  | nil => simp [waitCount]
  | cons op ops ih =>
    rcases op with ⟨d, _ | _⟩ | _ | e | _
    case w.true => simp only [List.cons_append, waitCount, ih]; omega
    all_goals simp [waitCount, ih]

/-- With the clock released at each wait a run does every micro-operation and completes. -/
theorem runOps_released (i : Instr) (ops : List MicroOp) (k : Nat) (xs : List Level) (s : State)
    (h : ∀ j < waitCount ops, s.sclAnswer j = true) :
    runOps i ops k false xs s = finish i (releasedAll ops (xs, s)).1 (releasedAll ops (xs, s)).2 := by
  induction ops generalizing k xs s with
  | nil => rfl
  | cons op ops ih =>
    rcases op with ⟨d, _ | _⟩ | _ | e | _
    · exact ih _ _ _ (by simpa [waitCount, lineWrite] using h)
    · have h0 : s.sclAnswer 0 = true := h 0 (by simp [waitCount])
      rw [runOps, attempt_rise, pollClock_high ((sclLevel_setLines_high d).trans h0)]
      refine ih _ _ _ fun j hj => ?_
      rw [sclAnswer_addPoll, sclAnswer_setLines]
      exact h _ (by simp only [waitCount]; omega)
    · exact ih _ _ _ (by simpa [waitCount, lineRead] using h)
    · exact ih _ _ _ (by simpa [waitCount, lineWrite, recordAck] using h)
    · exact ih _ _ _ (by simpa [waitCount, delay] using h)

/-- Conversely a run that completes was released at each wait. -/
theorem released_of_runOps_idle (i : Instr) (ops : List MicroOp) (k : Nat) (xs : List Level) (s : State)
    (h : (runOps i ops k false xs s).busy = false) : ∀ j < waitCount ops, s.sclAnswer j = true := by
  induction ops generalizing k xs s with
  | nil => simp [waitCount]
  | cons op ops ih =>
    rcases op with ⟨d, _ | _⟩ | _ | e | _
    · simpa [waitCount, lineWrite] using ih _ _ _ h
    · cases h0 : s.sclAnswer 0 with
      | true =>
        rw [runOps, attempt_rise, pollClock_high ((sclLevel_setLines_high d).trans h0)] at h
        have rest := ih _ _ _ h
        intro j hj
        rcases j with _ | j
        · exact h0
        · have := rest j (by simp only [waitCount] at hj; omega)
          rwa [sclAnswer_addPoll, sclAnswer_setLines, Nat.add_comm] at this
      | false =>
        rw [runOps, attempt_rise, pollClock_low ((sclLevel_setLines_high d).trans h0)] at h
        simp [setSeq_running_busy] at h
    · simpa [waitCount, lineRead] using ih _ _ _ h
    · simpa [waitCount, lineWrite, recordAck] using ih _ _ _ h
    · simpa [waitCount, delay] using ih _ _ _ h

end Sys2Proof.Machine
end

