-- ==== Sys2Proof/Laws/Procedures.lean ====
section
/-! SUPPORT. What each procedure of the protocol engine does when the clock is released at each of its waits: the lines
it ends with, the samples it takes, the events it records (R101 to R107, R109). -/

namespace Sys2Proof.Machine

variable (xs : List Level) (s : State)

/-- The state after a procedure: lines, counts of samples and polls, and events added. -/
def State.afterBus (s : State) (d c : Level) (reads polls : Nat) (events : List Event) : State :=
  { s with
    sdaOut := d, sclOut := c, sdaReads := s.sdaReads + reads, sclPolls := s.sclPolls + polls,
    trace := s.trace ++ events }

theorem afterBus_afterBus (d c d' c' : Level) (r p r' p' : Nat) (e e' : List Event) :
    (s.afterBus d c r p e).afterBus d' c' r' p' e' = s.afterBus d' c' (r + r') (p + p') (e ++ e') := by
  simp [State.afterBus, Nat.add_assoc]

theorem sdaAnswer_afterBus (d c : Level) (r p : Nat) (e : List Event) (j : Nat) :
    (s.afterBus d c r p e).sdaAnswer j = s.sdaAnswer (r + j) := by
  simp only [State.sdaAnswer, State.afterBus, Nat.add_assoc]; rfl

theorem releasedAll_start : releasedAll startOps (xs, s) = (xs, s.afterBus false false 0 2 startTrace) := by
  simp [releasedAll, startOps, released, State.afterBus, startTrace, State.setLines, State.addPoll]

theorem releasedAll_stop : releasedAll stopOps (xs, s) = (xs, s.afterBus true true 0 2 stopTrace) := by
  simp [releasedAll, stopOps, released, State.afterBus, stopTrace, State.setLines, State.addPoll]

theorem releasedAll_sendBit (d : Level) :
    releasedAll (sendBitOps d) (xs, s) = (xs, s.afterBus d false 0 1 [.wr d false, .wr d true, .wr d false]) := by
  simp [releasedAll, sendBitOps, released, State.afterBus, State.setLines, State.addPoll]

theorem releasedAll_send (b : Byte) :
    releasedAll (sendOps b) (xs, s) = (xs, s.afterBus (b.getLsbD 0) false 0 8 (sendTrace b)) := by
  simp only [sendOps, wireBits, List.flatMap_cons, List.flatMap_nil, releasedAll_append, releasedAll_sendBit,
    List.append_nil, afterBus_afterBus, sendTrace, List.append_assoc]

theorem releasedAll_recvBit :
    releasedAll recvBitOps (xs, s) =
      (xs ++ [s.sdaAnswer 0],
        s.afterBus true false 1 1 [.wr true false, .wr true true, .sm (s.sdaAnswer 0), .wr true false]) := by
  have h : ((s.setLines true false).setLines true true).addPoll.sdaLevel = s.sdaAnswer 0 := by
    simp [State.sdaLevel]
  simp only [releasedAll, recvBitOps, List.foldl_cons, List.foldl_nil, released, h]
  simp [State.afterBus, State.setLines, State.addPoll, State.addSample]

theorem releasedAll_recv :
    releasedAll recvOps (xs, s) =
      (xs ++ (List.range 8).map fun n => s.sdaAnswer n, s.afterBus true false 8 8 (recvTrace s 0)) := by
  simp only [recvOps, List.replicate, List.flatten_cons, List.flatten_nil, releasedAll_append, releasedAll_recvBit,
    List.append_nil, afterBus_afterBus, sdaAnswer_afterBus]
  simp [recvTrace, List.range, List.range.loop]

theorem releasedAll_ack (e : Byte) :
    releasedAll (ackOps e) (xs, s) =
      (xs ++ [s.sdaAnswer 0],
        recordAck e (s.sdaAnswer 0) (s.afterBus true false 1 1 (ackTrace s 0))) := by
  have h : ((s.setLines true false).setLines true true).addPoll.sdaLevel = s.sdaAnswer 0 := by
    simp [State.sdaLevel]
  simp only [releasedAll, ackOps, List.foldl_cons, List.foldl_nil, released, h]
  simp [State.afterBus, ackTrace, State.setLines, State.addPoll, State.addSample]

theorem releasedAll_sendAck :
    releasedAll sendAckOps (xs, s) = (xs, s.afterBus false false 0 1 sendAckTrace) := by
  simp [releasedAll, sendAckOps, released, State.afterBus, sendAckTrace, State.setLines, State.addPoll]

theorem releasedAll_sendNack :
    releasedAll sendNackOps (xs, s) = (xs, s.afterBus false false 0 1 sendNackTrace) := by
  simp [releasedAll, sendNackOps, released, State.afterBus, sendNackTrace, State.setLines, State.addPoll]

theorem releasedAll_delay : releasedAll [.delay] (xs, s) = (xs, s.afterBus s.sdaOut s.sclOut 0 0 [.dl]) := rfl

/-! ## Procedures after an `ack`, whose error record they leave -/

theorem recordAck_afterBus (e : Byte) (v d c : Level) (r p : Nat) (ev : List Event) :
    (recordAck e v s).afterBus d c r p ev = recordAck e v (s.afterBus d c r p ev) := rfl

theorem recordAck_recordAck (e e' : Byte) (v v' : Level) :
    recordAck e' v' (recordAck e v s) = recordAck e' v' s := rfl

theorem sdaAnswer_recordAck (e : Byte) (v : Level) (j : Nat) : (recordAck e v s).sdaAnswer j = s.sdaAnswer j := rfl

end Sys2Proof.Machine
end

