-- ==== Sys2Proof/Laws/Runs.lean ====
section
/-! SUPPORT. Runs of many steps of `Sys2Proof.core`, how many waits a command has, and what a poll of the held clock does (R53, R143). -/

namespace Sys2Proof.Machine

/-! ## Waits -/

@[simp] theorem waitCount_delay (ops : List MicroOp) : waitCount (.delay :: ops) = waitCount ops := rfl
@[simp] theorem waitCount_start : waitCount startOps = 2 := rfl
@[simp] theorem waitCount_stop : waitCount stopOps = 2 := rfl
@[simp] theorem waitCount_send (b : Byte) : waitCount (sendOps b) = 8 := rfl
@[simp] theorem waitCount_recv : waitCount recvOps = 8 := rfl
@[simp] theorem waitCount_ack (e : Byte) : waitCount (ackOps e) = 1 := rfl
@[simp] theorem waitCount_sendAck : waitCount sendAckOps = 1 := rfl
@[simp] theorem waitCount_sendNack : waitCount sendNackOps = 1 := rfl
@[simp] theorem waitCount_probe (c : Byte) : waitCount (probeOps c) = 22 := by
  simp only [probeOps, waitCount_append, waitCount_start, waitCount_send, waitCount_ack, waitCount_recv,
    waitCount_sendNack, waitCount_stop]

/-- A command's list has as many waits as R109 and R128 count. -/
theorem waitCount_opsOf (i : Instr) : waitCount (opsOf i) = waitsOf i := by
  cases i with
  | scan first => simp [opsOf, waitsOf, scanOps, scanCandidates, scanCount, List.range_succ]
  | _ => simp [opsOf, waitsOf, writeRegOps, readRegOps, readRegWordOps, readPhase1Ops, readPhase2Ops]

/-! ## Runs -/

/-- A run of one step more, when the first step is known. -/
theorem host_run_next (M : Host.Core) {s t : M.State} (h : M.step s = .next t) (n : Nat) :
    M.run (n + 1) s = M.run n t := by
  simp only [Host.Core.run, h]

/-- A run goes on from where a shorter one has come to. -/
theorem host_run_add (M : Host.Core) {s t : M.State} (m n : Nat) (h : M.run m s = .next t) :
    M.run (m + n) s = M.run n t := by
  induction m generalizing s with
  | zero => cases h; rw [Nat.zero_add]
  | succ m ih =>
    rw [Nat.add_right_comm]
    simp only [Host.Core.run] at h ⊢
    split at h
    · exact ih h
    · cases h
    · cases h

theorem core_run_next {s t : State} (h : step s = .next t) (n : Nat) :
    Sys2Proof.core.run (n + 1) s = Sys2Proof.core.run n t := host_run_next Sys2Proof.core h n

theorem core_run_add {s t : State} (m n : Nat) (h : Sys2Proof.core.run m s = .next t) :
    Sys2Proof.core.run (m + n) s = Sys2Proof.core.run n t := host_run_add Sys2Proof.core m n h

/-- A command in progress goes on, when no reset is asserted (R88, R135). -/
theorem step_running {s : State} {i : Instr} {k : Nat} {w : Bool} {xs : List Level} (reset : s.rstIn = false)
    (seq : s.seq = .running i k w xs) : step s = .next (runOps i ((opsOf i).drop k) k w xs s) := by
  simp [step, resume, reset, seq]

/-- A held command whose poll reads 0 stays where it is, one poll later (R53). -/
theorem step_held {s : State} {i : Instr} {k : Nat} {xs : List Level} (reset : s.rstIn = false)
    (seq : s.seq = .running i k true xs) (inside : k < (opsOf i).length) (low : s.sclLevel = false) :
    step s = .next s.addPoll := by
  rw [step_running reset seq, List.drop_eq_getElem_cons inside, runOps, attempt, if_pos rfl, pollClock_low low]
  exact congrArg _ (by simp [State.setSeq, State.addPoll, seq])

/-- A held command whose poll reads 1 goes on with the micro-operation after it (R143). -/
theorem step_released {s : State} {i : Instr} {k : Nat} {xs : List Level} (reset : s.rstIn = false)
    (seq : s.seq = .running i k true xs) (inside : k < (opsOf i).length) (high : s.sclLevel = true) :
    step s = .next (runOps i ((opsOf i).drop (k + 1)) (k + 1) false xs s.addPoll) := by
  rw [step_running reset seq, List.drop_eq_getElem_cons inside, runOps, attempt, if_pos rfl, pollClock_high high]

end Sys2Proof.Machine
end

