-- ==== Sys2Proof/Tests/Slice0.lean ====
section
/-! SUPPORT. The model's own tests. Expected results are from spec/30_encoding.md section 7 and the vectors of
spec/95_test_vectors.md, named at each test; then, for each statement with hypotheses, a concrete case that meets them. -/

namespace Sys2Proof.Tests

open Sys2Proof.Machine

set_option maxRecDepth 20000

/-! ## Helpers -/

/-- Power-up with a sample script and a clock script (spec/95 section 1). -/
def bus (sda scl : List Level) : State := { State.reset with envSda := sda, envScl := scl }

/-- Power-up with a sample script and the clock always free. -/
def freeBus (sda : List Level) : State := bus sda (List.replicate 200 true)

/-- The state after a command. -/
def after (i : Instr) (s : State) : State :=
  match exec i s with
  | .next t => t
  | .fault _ => s
  | .refused _ => s

/-- The state after a step. -/
def stepped (s : State) : State :=
  match step s with
  | .next t => t
  | .fault _ => s
  | .refused _ => s

/-- Sample scripts are written as lists of digits. -/
def bits (ds : List Nat) : List Level := ds.map (· == 1)

/-- Traces as in spec/95 section 1: 11, 10, 1, 0 are the writes `11`, `10`, `01`, `00`; 20 and 21 are `s0`, `s1`;
anything else is `DLY`. -/
def tr (ds : List Nat) : List Event :=
  ds.map fun
    | 11 => .wr true true
    | 10 => .wr true false
    | 1 => .wr false true
    | 0 => .wr false false
    | 20 => .sm false
    | 21 => .sm true
    | _ => .dl

/-- `NOBODY`: every sample 1. -/
def nobody : List Level := List.replicate 90 true

/-! ## Well-formed terms (R84): the one check, at its bound -/

theorem test_scan_F2_is_ill_formed : (Instr.scan 0xF2).wf = false := by decide
theorem test_scan_F1_is_well_formed : (Instr.scan 0xF1).wf = true := by decide

/-! ## Decoding: words written out from R80 to R82 and spec/95 section 3.1 -/

theorem test_decode_start : decode 0b0001_0000_00000000_00000000_00000000#32 = .ok .start := by decide
theorem test_decode_stop : decode 0b0010_0000_00000000_00000000_00000000#32 = .ok .stop := by decide
theorem test_decode_send : decode 0b0011_0000_00000000_00000000_10100101#32 = .ok (.send 0xA5) := by decide
theorem test_decode_read : decode 0b0100_0000_00000000_00000000_00000000#32 = .ok .read := by decide
theorem test_decode_ack : decode 0b0101_0000_00000000_00000000_11111111#32 = .ok (.ack 0xFF) := by decide
theorem test_decode_send_ack : decode 0b0110_0000_00000000_00000000_00000000#32 = .ok .sendAck := by decide
theorem test_decode_send_nack : decode 0b0111_0000_00000000_00000000_00000000#32 = .ok .sendNack := by decide
theorem test_decode_scan : decode 0b1000_0000_11110001_00000000_00000000#32 = .ok (.scan 0xF1) := by decide
theorem test_decode_write_reg :
    decode 0b1001_0000_0_1000010_00000101_11111111#32 = .ok (.writeReg 0x42 0x05 0xFF) := by decide
theorem test_decode_read_reg :
    decode 0b1010_0000_0_1111111_11111111_00000000#32 = .ok (.readReg 0x7F 0xFF) := by decide
theorem test_decode_read_reg_word :
    decode 0b1011_0000_0_1000010_00000101_00000000#32 = .ok (.readRegWord 0x42 0x05) := by decide

theorem test_decode_reserved_opcodes :
    [0x00000000, 0x0FFFFFFF, 0xC0000000, 0xD0000000, 0xE0000000, 0xF0000000, 0xFFFFFFFF].map decode =
      List.replicate 7 (.error .reservedOpcode) := by decide
theorem test_decode_must_be_zero :
    [0x10000001, 0x10010000, 0x11000000, 0x30000100, 0x30010000, 0x80100001, 0x90C205FF, 0x90800000, 0xA0420501,
      0xB1420500].map decode = List.replicate 10 (.error .mustBeZero) := by decide
theorem test_decode_scan_start_too_high :
    [0x80F20000, 0x80FF0000].map decode = List.replicate 2 (.error .scanStartTooHigh) := by decide

/-- The printed words of spec/30 section 7, from the encoder. -/
theorem test_encode_printed_words :
    [encode (.send 0xA5), encode (.ack 7), encode (.scan 0x10), encode (.writeReg 0x42 0x05 0xFF),
      encode (.readReg 0x42 0x05), encode (.readRegWord 0x42 0x05)] =
    [0x300000A5, 0x50000007, 0x80100000, 0x904205FF, 0xA0420500, 0xB0420500] := by decide

theorem test_table_word : decodeTableWord 32 0xB0420500 = some (.readRegWord 0x42 0x05) := by decide

/-- spec/95 section 3.1, the `wire_addr` line. -/
theorem test_wire_addr :
    [wireAddr 0x0A 0, wireAddr 0x42 0, wireAddr 0x42 1, wireAddr 0x7F 1] = [0x14, 0x84, 0x85, 0xFF] := by decide

/-- R87: `ACK` and `ACK 0` are one word; an operand out of range is an error. -/
theorem test_assemble_ack : assembleLine ['A', 'C', 'K'] = .ok (some 0x50000000) := by decide
theorem test_assemble_ack_zero : assembleLine ['A', 'C', 'K', ' ', '0'] = .ok (some 0x50000000) := by decide
theorem test_assemble_write_reg :
    assembleLine ['W', 'R', 'I', 'T', 'E', '_', 'R', 'E', 'G', ' ', '0', 'x', '4', '2', ',', ' ', '5', ',', ' ',
      '2', '5', '5', ' ', ';', 'x'] = .ok (some 0x904205FF) := by decide
theorem test_assemble_send_out_of_range :
    assembleLine ['S', 'E', 'N', 'D', ' ', '3', '0', '0'] = .error .outOfRange := by decide
theorem test_assemble_scan_out_of_range :
    assembleLine ['S', 'C', 'A', 'N', ' ', '0', 'x', 'F', '2'] = .error .outOfRange := by decide

/-! ## The protocol engine -/

/-- V2. -/
theorem test_start_then_stop_trace :
    (after .stop (after .start (freeBus []))).trace = tr [11, 1, 0, 0, 1, 11] := by decide

/-- Section 3.3, `SEND 0x84`. -/
theorem test_send_84_trace :
    (after (.send 0x84) (freeBus [])).trace =
      tr [10, 11, 10, 0, 1, 0, 0, 1, 0, 0, 1, 0, 0, 1, 0, 10, 11, 10, 0, 1, 0, 0, 1, 0] := by decide

/-- Section 3.3: `SEND 0x01` leaves the lines at (1, 0). -/
theorem test_send_01_lines : (after (.send 0x01) (freeBus [])).pinsOut = (true, false) := by decide

/-- Section 3.4: the first sample is bit 7. -/
theorem test_read_first_sample_is_bit_7 :
    (after .read (freeBus (bits [1, 0, 0, 0, 0, 0, 0, 0]))).rxd0 = 0x80 := by decide

/-- The example of R104. -/
theorem test_read_CA :
    (after .read (freeBus (bits [1, 1, 0, 0, 1, 0, 1, 0]))).trace =
      tr [10, 11, 21, 10, 10, 11, 21, 10, 10, 11, 20, 10, 10, 11, 20, 10, 10, 11, 21, 10, 10, 11, 20, 10, 10, 11, 21,
        10, 10, 11, 20, 10] := by decide

/-- Section 3.5: not acknowledged with a description. -/
theorem test_ack_7_nack :
    let t := after (.ack 7) (freeBus (bits [1]))
    (t.ackr, t.err, t.errmsg, t.trace) = (false, true, 7, tr [10, 11, 21, 10]) := by decide

/-- Section 3.5: a failure with no description clears. -/
theorem test_ack_nack_without_description_clears :
    let t := after (.ack 0) ((freeBus (bits [1])).setError true 9)
    (t.ackr, t.err, t.errmsg) = (false, false, 0) := by decide

/-- Section 3.2. -/
theorem test_send_ack_trace : (after .sendAck (freeBus [])).trace = tr [0, 1, 0] := by decide
theorem test_send_nack_trace : (after .sendNack (freeBus [])).trace = tr [10, 11, 10, 0] := by decide

/-! ## The transactions -/

/-- V4: `SCAN 0x10` where only 0x14 is acknowledged: sample 19 is 0. -/
theorem test_scan_finds_14 :
    let t := after (.scan 0x10) (freeBus (List.replicate 18 true ++ [false] ++ List.replicate 53 true))
    (t.scancnt, t.scanlist[0], t.cause, t.err, t.pinsOut) = (1, 0x14, .ok, false, (true, true)) := by decide

/-- V5: nobody; `STATUS` reads `0b00001x00`, here with `x = 0`. -/
theorem test_scan_finds_nobody :
    let t := after (.scan 0x10) ((freeBus nobody).setAckr false)
    (t.scancnt, t.cause, t.errmsg, t.status) = (0, .noDevice, 0, 0b00001000) := by decide

/-- V6: the full trace of `WRITE_REG 0x42, 0x05, 0xFF`, every byte acknowledged. -/
theorem test_write_reg_trace :
    (after (.writeReg 0x42 0x05 0xFF) (freeBus (bits [0, 0, 0, 0]))).trace =
      tr [11, 1, 0] ++
      tr [10, 11, 10, 0, 1, 0, 0, 1, 0, 0, 1, 0, 0, 1, 0, 10, 11, 10, 0, 1, 0, 0, 1, 0] ++ tr [10, 11, 20, 10] ++
      tr [0, 1, 0, 0, 1, 0, 0, 1, 0, 0, 1, 0, 0, 1, 0, 10, 11, 10, 0, 1, 0, 10, 11, 10] ++ tr [10, 11, 20, 10] ++
      tr [10, 11, 10, 10, 11, 10, 10, 11, 10, 10, 11, 10, 10, 11, 10, 10, 11, 10, 10, 11, 10, 10, 11, 10] ++
      tr [10, 11, 20, 10] ++
      tr [0, 1, 0, 0, 1, 0, 0, 1, 0, 0, 1, 0, 0, 1, 0, 0, 1, 0, 0, 1, 0, 0, 1, 0] ++ tr [10, 11, 20, 10] ++
      tr [0, 1, 11] := by decide

/-- Section 3.6: only the terminator's failure survives. -/
theorem test_write_reg_error_is_the_terminators :
    let t := after (.writeReg 0x42 0x05 0xFF) (freeBus (bits [1, 0, 1, 1]))
    let u := after (.writeReg 0x42 0x05 0xFF) (freeBus (bits [1, 1, 1, 0]))
    (t.err, t.errmsg, u.err, u.errmsg) = (true, 4, false, 0) := by decide

/-- Section 3.7: not acknowledged, but the data line moved anyway. -/
theorem test_read_reg_nack :
    let t := after (.readReg 0x42 0x05) (freeBus (bits [0, 0, 1, 0, 0, 1, 1, 1, 1, 0, 0]))
    (t.rxd0, t.err, t.errmsg, delaysOf t.trace) = (0x3C, true, 5, 1) := by decide

/-- V7. -/
theorem test_read_reg_word :
    let t := after (.readRegWord 0x42 0x05)
      (freeBus (bits [0, 0, 0, 0, 0, 1, 1, 1, 1, 0, 0, 1, 0, 1, 0, 0, 1, 1, 1]))
    (t.rxd0, t.rxd1, t.err, (writesOf t.trace).length) = (0x3C, 0xA7, false, 148) := by decide

/-! ## The clock, the step, reset, the registers -/

/-- Section 3.10, row 4: `SEND 0xFF`, the clock held from the fifth write on. -/
theorem test_send_held_at_fifth_write :
    let t := after (.send 0xFF) (bus [] [true, false])
    (t.trace, t.busy, t.pinsOut) = (tr [10, 11, 10, 10, 11], true, (true, true)) := by decide

/-- Section 3.10, row 2: held at first, then released; afterwards as if there had been no pause. -/
theorem test_start_goes_on_when_released :
    let t := stepped (stepped (after .start (bus [] [false, false, true, true])))
    (t.trace, t.busy, t.pinsOut) = (tr [11, 1, 0], false, (false, false)) := by decide

/-- Section 3.10, last row: the delay does not look at the clock. -/
theorem test_delay_does_not_wait :
    let t := after (.readReg 0x42 0x05) (bus (bits [0, 0]) (List.replicate 22 true ++ [false]))
    (t.busy, (writesOf t.trace).length, delaysOf t.trace) = (true, 61, 1) := by decide

/-- P4: an illegal word changes nothing but `CAUSE`. -/
theorem test_step_illegal_word :
    let t := stepped { freeBus [] with port := [0xC0000000] }
    (t.cause, t.trace, t.pinsOut, t.port) = (.illegalCommand, [], (true, true), []) := by decide

/-- P4 and P3: the step takes a legal word from the port and runs it. -/
theorem test_step_runs_presented_word :
    let t := stepped { freeBus [] with port := [0x30000084, 0x50000001] }
    (t.pinsOut, t.port, t.opc, t.latC) = ((false, false), [0x50000001], 3, 0x84) := by decide

/-- R53: a held command is resumed by the step, and the word presented meanwhile waits. -/
theorem test_word_waits_while_busy :
    let t := stepped { after .start (bus [] [false, false]) with port := [0x20000000] }
    (t.busy, t.port) = (true, [0x20000000]) := by decide

/-- Section 3.11: reset after a failed `ACK 7`. -/
theorem test_reset_clears_error_state :
    let t := stepped { after (.ack 7) (freeBus (bits [1])) with rstIn := true }
    (t.err, t.errmsg, t.cause, t.pinsOut, t.trace, t.rstIn) = (false, 0, .ok, (true, true), [], false) := by decide

/-- Section 3.11, last row: reset in the middle of a command, after 40 micro-steps. -/
theorem test_reset_abandons_command :
    let t := microRun 40 { freeBus nobody with port := [0x904205FF] }
    let u := microStep { t with rstIn := true }
    (t.busy, u.busy, u.pinsOut, u.trace, u.err) = (true, false, (true, true), [], false) := by decide

/-- Section 3.12: V7, then `ACK 7` not acknowledged. -/
theorem test_registers_after_read_word_and_ack :
    let t := after (.ack 7) (after (.readRegWord 0x42 0x05)
      (freeBus (bits [0, 0, 0, 0, 0, 1, 1, 1, 1, 0, 0, 1, 0, 1, 0, 0, 1, 1, 1, 1])))
    [0, 1, 2, 3, 4, 13, 14].map t.hostRead = [0b00000010, 0x07, 0x3C, 0xA7, 0, 0b01, 0] := by decide

/-- R33 at the ends of the scan-list range: registers 5 and 12 after all eight candidates of `SCAN 0x10` answered
(section 3.9). -/
theorem test_scan_list_registers :
    let t := after (.scan 0x10) (freeBus (List.replicate 72 false))
    [4, 5, 12, 13, 14].map t.hostRead = [8, 0x10, 0x1E, 0b11, 0] := by decide

/-- The host's fetch: the presented word is the first command run after power-up. -/
theorem test_fetch_word_runs_first :
    (∃ t, step (State.reset.withFetchWord 32 0x80100000) = .next t) ∧
    step (State.reset.withFetchWord 32 0x10000000) =
      exec .start (accept 0x10000000 [] (State.reset.withFetchWord 32 0x10000000)) := ⟨⟨_, rfl⟩, rfl⟩

/-! ## Cases that meet the statements' hypotheses -/

theorem witness_DecodeOfEncode : (Instr.scan 0xF1).wf = true := by decide
theorem witness_EncodeOfDecode : decode 0x907FFFFF = .ok (.writeReg 0x7F 0xFF 0xFF) := by decide
theorem witness_LegalWordsAreTheTableRows :
    decode 0x80F10000 = .ok (.scan 0xF1) ∧ tableRow (.scan 0xF1) ∈ tableRows ∧
      selectsRow 0x80F10000 (tableRow (.scan 0xF1)) = true ∧
      (selectsRow 0x80F20000 (tableRow (.scan 0xF1)) = true ∧ opcField 0x80F20000 = 8 ∧
        0xF1#8 < aField 0x80F20000) := by decide
/-- Clause by clause, at the bounds: 255 and 300 for `SEND`, 0x80 for an address, a missing operand, an operand that is
no number, no mnemonic, no word. -/
theorem witness_AssembledWordsAreLegal :
    LineSays ['S', 'E', 'N', 'D', ' ', '2', '5', '5'] (.send 0xFF) ∧
    (LineReads ['S', 'E', 'N', 'D', ' ', '3', '0', '0'] (mnemonicOf (.send 0)) [300] ∧
      operandBounds (mnemonicOf (.send 0)) = some [0xFF]) ∧
    (LineReads ['R', 'E', 'A', 'D', '_', 'R', 'E', 'G', ' ', '1', '2', '8', ',', '0'] (mnemonicOf (.readReg 0 0)) [128, 0] ∧
      operandBounds (mnemonicOf (.readReg 0 0)) = some [0x7F, 0xFF]) ∧
    LineReads ['S', 'C', 'A', 'N'] (mnemonicOf (.scan 0)) [] ∧
    (lineWords ['A', 'C', 'K', ' ', 'x'] = [mnemonicOf (.ack 0), ['x']] ∧ parseNumbers [['x']] = none) ∧
    (lineWords ['A', 'C'] = [['A', 'C']] ∧ operandBounds ['A', 'C'] = none) ∧ lineWords [' ', ';'] = [] :=
  ⟨.inl ⟨[['2', '5', '5']], by decide⟩, ⟨⟨[['3', '0', '0']], by decide⟩, by decide⟩,
    ⟨⟨[['1', '2', '8'], ['0']], by decide⟩, by decide⟩, ⟨[], by decide⟩, by decide, by decide, by decide⟩
theorem witness_WrittenLinesReadAsWritten :
    List.Forall₂ Writes [['2', '5'], ['0', 'x', '0', 'F'], ['0', 'b', '1']] [25, 15, 1] :=
  .cons (.inl rfl) (.cons (.inr (.inl ⟨1, rfl⟩)) (.cons (.inr (.inr ⟨0, rfl⟩)) .nil))
theorem witness_ScanCandidatesDoNotWrap : (0xF1#8 : Byte) ≤ 0xF1#8 ∧ 7 < 8 := by decide

theorem witness_StepRunsDecodedCommand :
    let s := { freeBus [] with port := [0x10000000] }
    s.rstIn = false ∧ s.seq = .idle ∧ s.port = 0x10000000 :: [] ∧ decode 0x10000000 = .ok .start := by decide
theorem witness_BusyBlockTakesNoWord :
    let s := after .start (bus [] [false])
    s.rstIn = false ∧ s.busy = true ∧ ∃ t, step s = .next t := ⟨by decide, by decide, _, rfl⟩
theorem witness_IllegalWordWritesOnlyCause :
    let s := { freeBus [] with port := [0x10000001] }
    s.rstIn = false ∧ s.seq = .idle ∧ s.port = 0x10000001 :: [] ∧ decode 0x10000001 = .error .mustBeZero := by
  decide
theorem witness_ScanAboveBoundIsIllegal : (0xF1#8 : Byte) < 0xF2#8 := by decide
theorem witness_IdleBlockChangesNothing : (bus [] []).rstIn = false ∧ (bus [] []).seq = .idle ∧ (bus [] []).port = [] :=
  by decide
theorem witness_ResetFromAnyState : { after .start (bus [] [false]) with rstIn := true }.rstIn = true := rfl
theorem witness_ResetLeavesTheOutsideAlone :
    ∃ t, step { after .start (bus [] [false]) with rstIn := true } = .next t ∧ t.rstIn = false := ⟨_, rfl, rfl⟩

/-- Enough clock for each command's waits; `SCAN` at its largest legal start. -/
theorem witness_commands_complete :
    ClockReleased (freeBus []) 1 ∧ ClockReleased (freeBus []) 2 ∧ ClockReleased (freeBus []) 4 ∧
    ClockReleased (freeBus []) 8 ∧ ClockReleased (freeBus []) 16 ∧ ClockReleased (freeBus []) 40 ∧
    ClockReleased (freeBus []) 44 ∧ ClockReleased (freeBus []) 53 := by decide
theorem witness_ScanCompletes : (0xF1#8 : Byte) ≤ 0xF1#8 ∧ ClockReleased (freeBus []) 176 := by decide

theorem witness_PrimitivesWithoutSampleFrame : ∃ t, exec .start (bus [] [false]) = .next t ∧ t.busy = true :=
  ⟨_, rfl, by decide⟩
theorem witness_ReadFrame : ∃ t, exec .read (bus [] [false]) = .next t ∧ t.busy = true := ⟨_, rfl, by decide⟩
theorem witness_AckFrame : ∃ t, exec (.ack 7) (bus [] [false]) = .next t ∧ t.busy = true := ⟨_, rfl, by decide⟩
theorem witness_ScanFrame :
    (0xF1#8 : Byte) ≤ 0xF1#8 ∧ ∃ t, exec (.scan 0xF1) (bus [] [false]) = .next t ∧ t.busy = true :=
  ⟨by decide, _, rfl, by decide⟩
theorem witness_RegisterTransactionsFrame :
    ∃ t, exec (.readReg 0x42 5) (bus (bits [1, 1]) (List.replicate 22 true ++ [false])) = .next t ∧ t.busy = true :=
  ⟨_, rfl, by decide⟩

theorem witness_CompletesExactlyWhenClockReleased :
    (∃ t, exec .start (freeBus []) = .next t ∧ t.busy = false) ∧
    (∃ t, exec .start (bus [] [true, false]) = .next t ∧ t.busy = true) :=
  ⟨⟨_, rfl, by decide⟩, ⟨_, rfl, by decide⟩⟩
theorem witness_HeldCommandStandsAtClockRise :
    Instr.stop.wf = true ∧ ∃ t, exec .stop (bus [] [true, false]) = .next t ∧ t.busy = true :=
  ⟨rfl, _, rfl, by decide⟩
theorem witness_HeldCommandCompletesOnceReleased :
    let s := after .start (accept 0x10000000 [] (bus [] [false, false, true, true]))
    Consistent s ∧ s.rstIn = false ∧ s.current = some .start ∧ (∀ j < 1, s.sclAnswer j = false) ∧
      ∀ j < waitsOf .start, s.sclAnswer (1 + j) = true :=
  ⟨⟨rfl, by decide, ⟨rfl, ⟨rfl, rfl, rfl, rfl⟩, rfl, rfl, true, rfl, rfl⟩, rfl, fun n v h => by
      rcases n with _ | n <;> cases h⟩, rfl, rfl, by decide, by decide⟩
theorem witness_StuckClockHoldsForever :
    let s := after .start (bus [] [false, false, false])
    s.rstIn = false ∧ s.seq = .running .start 0 true [] ∧ 0 < (opsOf .start).length ∧
      ∀ j < 2, s.sclAnswer j = false := by decide
theorem witness_ClockStretchingLeavesNoMark :
    let s := bus [] [true, true]
    let s' := bus [] [false, true, true]
    s.rstIn = false ∧ s'.withoutClock = s.withoutClock ∧
      CompletesAs (after .start s) (after .start s) ∧ CompletesAs (after .start s') (stepped (after .start s')) :=
  ⟨by decide, rfl, ⟨0, rfl, by decide, fun _ h => absurd h (Nat.not_lt_zero _)⟩,
    ⟨1, rfl, by decide, fun j hj v hv => by
      obtain rfl : j = 0 := by omega
      cases hv; decide⟩⟩
theorem witness_StepKeepsConsistent :
    Consistent (State.reset.withFetchWord 32 0x10000000) ∧
      ∃ t, step (State.reset.withFetchWord 32 0x10000000) = .next t :=
  ⟨⟨rfl, by decide, (fun h => by cases h), rfl, (fun _ _ h => by cases h)⟩, _, rfl⟩
theorem witness_ErrorFlagMatchesMessageAtEveryMoment :
    ErrOk ((bus [] []).setError true 7) ∧ ∃ t, step ((bus [] []).setError true 7) = .next t :=
  ⟨by decide, _, rfl⟩
theorem witness_TransactionsKeepTheLineRule :
    isTransaction (.writeReg 0x42 5 0xFF) = true ∧ (freeBus nobody).sdaOut = true ∧
      ∃ t, exec (.writeReg 0x42 5 0xFF) (freeBus nobody) = .next t ∧ t.busy = false :=
  ⟨rfl, rfl, _, rfl, by decide⟩
theorem witness_FirstWriteOfEachCommand :
    (∃ t, exec (.send 0x80) (bus [] []) = .next t) ∧ isTransaction .start = false ∧
      bothChange (false, false) (firstWriteOf .start) = true ∧ bothChange (true, true) (firstWriteOf .stop) = true ∧
      bothChange (true, true) (firstWriteOf (.send 0x7F)) = true ∧
      bothChange (true, true) (firstWriteOf (.send 0x80)) = false := ⟨⟨_, rfl⟩, by decide⟩
theorem witness_TraceShapeDependsOnCommandAlone :
    (∃ t, exec (.ack 7) (freeBus (bits [0])) = .next t ∧ t.busy = false) ∧
    (∃ t, exec (.ack 7) (freeBus (bits [1])) = .next t ∧ t.busy = false) :=
  ⟨⟨_, rfl, by decide⟩, ⟨_, rfl, by decide⟩⟩
theorem witness_EventCountsOfEachCommand :
    ∃ t, exec (.readRegWord 0x42 5) (freeBus nobody) = .next t ∧ t.busy = false := ⟨_, rfl, by decide⟩
theorem witness_ResultLatchesHaveTheirOwnWriters :
    ∃ t, exec (.ack 7) ((freeBus (bits [1])).setAckr true) = .next t ∧
      t.ackr ≠ ((freeBus (bits [1])).setAckr true).ackr := ⟨_, rfl, by decide⟩
theorem witness_result_latches_received :
    (after .read ((freeBus nobody).setRxd0 0)).rxd0 ≠ ((freeBus nobody).setRxd0 0).rxd0 ∧
      (after (.readRegWord 1 2) ((freeBus nobody).setRxd1 0)).rxd1 ≠ ((freeBus nobody).setRxd1 0).rxd1 ∧
      (after (.scan 0) (freeBus (List.replicate 72 false))).scancnt ≠ (freeBus (List.replicate 72 false)).scancnt := by
  decide
theorem witness_OnlyAcknowledgesWriteErrorState :
    let s := { freeBus (bits [1]) with port := [0x50000007] }
    s.rstIn = false ∧ ∃ t, step s = .next t ∧ ¬ErrorKept s t := ⟨rfl, _, rfl, by decide⟩
theorem witness_CauseSaysHowTheCommandEnded :
    (∃ t, exec (.scan 0x10) (freeBus nobody) = .next t ∧ t.busy = false ∧
      ∀ k < 8, (freeBus nobody).sdaAnswer (9 * k) = true) ∧
    (∃ t, exec .start (bus [] [false]) = .next t ∧ t.busy = true) ∧
    decode 0x00000000 = .error .reservedOpcode := ⟨⟨_, rfl, by decide⟩, ⟨_, rfl, by decide⟩, by decide⟩
theorem witness_cause_of_a_resumed_command :
    let s := after .start (bus [] [false, true, true])
    s.rstIn = false ∧ s.seq = .running .start 0 true [] ∧ ∃ t, step s = .next t ∧ t.busy = false :=
  ⟨rfl, by decide, _, rfl, by decide⟩
theorem witness_NoDeviceExactlyWhenNobodyAnswers :
    (freeBus nobody).cause ≠ .noDevice ∧ ∃ t, exec (.scan 0x10) (freeBus nobody) = .next t ∧ t.cause = .noDevice :=
  ⟨by decide, _, rfl, by decide⟩
theorem witness_LoopbackReproducesTheByte :
    let s := freeBus (bits [0, 0, 0, 0, 0, 0, 0, 1])
    ClockReleased s 16 ∧ ∀ n < 8, s.sdaAnswer n = (0x01#8).getLsbD (7 - n) := by decide
theorem witness_SampleFollowsTheOpenDrainRule :
    ((bus [true] []).setLines false true).sdaOut = false ∧ (bus [true] []).sdaOut = true := by decide

end Sys2Proof.Tests
end

section
/-! Proofs of the statements about spec/00_scope.md. -/

namespace Sys2Proof.Machine

/-- Settles O12: the step takes neither the reset branch nor the branch that goes on with a command, and of the idle
branch the one in which no word is presented, which answers the state it was given. -/
theorem idleBlockChangesNothing : Obligations.IdleBlockChangesNothing := by
  intro s noReset idle noWord
  rw [step, if_neg (Bool.eq_false_iff.mp noReset), idle, noWord]

end Sys2Proof.Machine
end

section
/-! SUPPORT. What a step and a command can come to, said once for the statements about spec/10_state.md: the cases of
`exec` and of `step`, and what the end of a run leaves of each part of the state. -/

namespace Sys2Proof.Machine

variable {s t u : State} {i : Instr} {op : MicroOp} {w : Bool} {xs ys : List Level}

/-! ## The cases of a command and of a step -/

/-- A command runs its list, or is the ill-formed `SCAN` and does what an illegal word does (R84, R135). -/
theorem exec_cases (h : exec i s = .next t) :
    (i.wf = true ∧ t = runCommand i s) ∨ (i.wf = false ∧ t = illegalCommand s) := by
  cases hwf : i.wf with
  | true =>
    rw [exec_eq_runCommand hwf] at h
    cases h
    exact .inl ⟨rfl, rfl⟩
  | false =>
    refine .inr ⟨rfl, ?_⟩
    cases i with
    | scan first =>
      rw [exec, execScan, if_neg (Bool.eq_false_iff.mp hwf)] at h
      cases h
      rfl
    | _ => cases hwf

/-- A step is a reset, or goes on with the command in progress, or takes what the port presents: nothing, an illegal
word, or a command (R135). -/
theorem step_cases (h : step s = .next t) :
    (s.rstIn = true ∧ t = applyReset s) ∨
    (s.rstIn = false ∧
      ((∃ i k w xs, s.seq = .running i k w xs ∧ t = runOps i ((opsOf i).drop k) k w xs s) ∨
       (s.seq = .idle ∧
        ((s.port = [] ∧ t = s) ∨
         (∃ word rest e, s.port = word :: rest ∧ decode word = .error e ∧
           t = illegalCommand (accept word rest s)) ∨
         (∃ word rest i, s.port = word :: rest ∧ decode word = .ok i ∧
           exec i (accept word rest s) = .next t))))) := by
  cases reset : s.rstIn with
  | true =>
    rw [step, if_pos reset] at h
    cases h
    exact .inl ⟨rfl, rfl⟩
  | false =>
    refine .inr ⟨rfl, ?_⟩
    cases seq : s.seq with
    | running i k w xs =>
      rw [step_running reset seq] at h
      cases h
      exact .inl ⟨i, k, w, xs, rfl, rfl⟩
    | idle =>
      refine .inr ⟨rfl, ?_⟩
      rw [step, if_neg (Bool.eq_false_iff.mp reset), seq] at h
      cases port : s.port with
      | nil =>
        rw [port] at h
        cases h
        exact .inl ⟨rfl, rfl⟩
      | cons word rest =>
        rw [port] at h
        cases decoded : decode word with
        | error e =>
          simp only [decoded] at h
          cases h
          exact .inr (.inl ⟨word, rest, e, rfl, decoded, rfl⟩)
        | ok i =>
          simp only [decoded] at h
          exact .inr (.inr ⟨word, rest, i, rfl, decoded, h⟩)

/-! ## How a run ends -/

/-- A run that has ended idle has completed. -/
theorem runOps_completed {ops : List MicroOp} {k : Nat} (h : (runOps i ops k w xs s).busy = false) :
    ∃ ys u, BusOnly s u ∧ runOps i ops k w xs s = finish i ys u := by
  obtain completed | ⟨n, ys, u, -, held⟩ := runOps_cases i ops k w xs s
  · exact completed
  · rw [held, setSeq_running_busy] at h
    cases h

/-- A run that has ended busy is held. -/
theorem runOps_held {ops : List MicroOp} {k : Nat} (h : (runOps i ops k w xs s).busy = true) :
    ∃ n ys u, BusOnly s u ∧ runOps i ops k w xs s = u.setSeq (.running i n true ys) := by
  obtain ⟨ys, u, -, completed⟩ | held := runOps_cases i ops k w xs s
  · rw [completed, finish_busy] at h
    cases h
  · exact held

/-- A completed command's micro-operations were done one after another, none of them held. -/
theorem exec_completed (wf : i.wf = true) (h : exec i s = .next t) (idle : t.busy = false) :
    t = finish i (releasedAll (opsOf i) ([], s)).1 (releasedAll (opsOf i) ([], s)).2 := by
  rw [exec_eq_runCommand wf] at h
  cases h
  exact runOps_released i _ 0 [] s (released_of_runOps_idle i _ 0 [] s idle)

/-! ## The error state -/

theorem finish_errorKept (i : Instr) (xs : List Level) (s : State) : ErrorKept s (finish i xs s) := by
  cases i <;> exact ⟨rfl, rfl⟩

theorem ErrorKept.trans (h : ErrorKept s t) (h' : ErrorKept t u) : ErrorKept s u :=
  ⟨h'.1.trans h.1, h'.2.trans h.2⟩

theorem attempt_held_errorKept (h : attempt op w xs s = .held t) : ErrorKept s t := by
  obtain ⟨-, -, rfl⟩ | ⟨-, d, -, -, rfl⟩ := attempt_held h <;> exact ⟨rfl, rfl⟩

/-- Of the micro-operations only the last line update of an `ack` writes the error state (R23, R105). -/
theorem attempt_done_error (h : attempt op w xs s = .done ys t) :
    ErrorKept s t ∨ ∃ e v, op = .ackEnd e ∧ t.err = errAfterAck e v ∧ t.errmsg = errmsgAfterAck e v := by
  obtain ⟨-, -, -, rfl⟩ | ⟨-, ⟨d, -, -, -, rfl⟩ | ⟨d, -, -, rfl⟩ | ⟨-, -, rfl⟩ | ⟨e, rfl, -, rfl⟩ | ⟨-, -, rfl⟩⟩ :=
    attempt_done h
  case inr.inr.inr.inr.inl => exact .inr ⟨e, _, rfl, rfl, rfl⟩
  all_goals exact .inl ⟨rfl, rfl⟩

/-- A list with no `ack` in it leaves the error state alone. -/
theorem runOps_errorKept (i : Instr) (ops : List MicroOp) (k : Nat) (w : Bool) (xs : List Level) (s : State)
    (noAck : ∀ e, .ackEnd e ∉ ops) : ErrorKept s (runOps i ops k w xs s) :=
  runOps_rule (fun ops _ _ _ t => (∀ e, .ackEnd e ∉ ops) ∧ ErrorKept s t) (ErrorKept s)
    (fun _ _ xs t h => h.2.trans (finish_errorKept i xs t))
    (fun _ _ _ _ _ _ t h ht => h.2.trans (u := t) (attempt_held_errorKept ht))
    (fun op _ _ _ _ _ _ _ h ht => by
      obtain ⟨noAck, kept⟩ := h
      refine ⟨fun e he => noAck e (List.mem_cons_of_mem op he), ?_⟩
      obtain keptNow | ⟨e, -, rfl, -⟩ := attempt_done_error ht
      · exact kept.trans keptNow
      · exact absurd List.mem_cons_self (noAck e))
    ops k w xs s ⟨noAck, rfl, rfl⟩

/-- A command without an acknowledge check has no `ack` in its list. -/
theorem ackEnd_notMem_opsOf (h : hasAck i = false) (e : Byte) : .ackEnd e ∉ opsOf i := by
  cases i with
  | ack e => cases h
  | scan first => cases h
  | writeReg addr reg value => cases h
  | readReg addr reg => cases h
  | readRegWord addr reg => cases h
  | send byte => simp [opsOf, sendOps, sendBitOps]
  | read => simp [opsOf, recvOps, recvBitOps]
  | _ => simp [opsOf, startOps, stopOps, sendAckOps, sendNackOps]

/-! ## `CAUSE` -/

theorem BusOnly.cause (h : BusOnly s t) : t.cause = s.cause := by
  unfold BusOnly at h
  rw [h]

theorem runOps_busy_cause {ops : List MicroOp} {k : Nat} (h : (runOps i ops k w xs s).busy = true) :
    (runOps i ops k w xs s).cause = s.cause := by
  obtain ⟨n, ys, u, bus, held⟩ := runOps_held h
  rw [held]
  exact bus.cause

theorem finish_cause_of_not_scan (h : ¬∃ first, i = .scan first) (xs : List Level) (s : State) :
    (finish i xs s).cause = .ok := by
  cases i with
  | scan first => exact absurd ⟨first, rfl⟩ h
  | _ => rfl

theorem scanCause_eq_noDevice {found : List Byte} (h : found = []) : scanCause found = .noDevice := by
  rw [h]; rfl

theorem scanCause_eq_ok {found : List Byte} (h : found ≠ []) : scanCause found = .ok := by
  simp [scanCause, h]

/-! ## Result latches -/

/-- The result latches are unchanged (R30, R31). -/
def ResultsKept (s t : State) : Prop := t.ackr = s.ackr ∧ t.rxd0 = s.rxd0 ∧ t.rxd1 = s.rxd1 ∧ ScanKept s t

theorem ScanKept.trans (h : ScanKept s t) (h' : ScanKept t u) : ScanKept s u :=
  ⟨h'.1.trans h.1, h'.2.1.trans h.2.1, h'.2.2.trans h.2.2⟩

theorem BusOnly.resultsKept (h : BusOnly s t) : ResultsKept s t := by
  unfold BusOnly at h
  rw [h]
  exact ⟨rfl, rfl, rfl, rfl, rfl, rfl⟩

theorem finish_writes_ackr (h : (finish i xs s).ackr ≠ s.ackr) : ∃ e, i = .ack e := by
  cases i with
  | ack e => exact ⟨e, rfl⟩
  | _ => exact absurd rfl h

theorem finish_writes_rxd0 (h : (finish i xs s).rxd0 ≠ s.rxd0) :
    i = .read ∨ (∃ a r, i = .readReg a r) ∨ ∃ a r, i = .readRegWord a r := by
  cases i with
  | read => exact .inl rfl
  | readReg addr reg => exact .inr (.inl ⟨addr, reg, rfl⟩)
  | readRegWord addr reg => exact .inr (.inr ⟨addr, reg, rfl⟩)
  | _ => exact absurd rfl h

theorem finish_writes_rxd1 (h : (finish i xs s).rxd1 ≠ s.rxd1) : ∃ a r, i = .readRegWord a r := by
  cases i with
  | readRegWord addr reg => exact ⟨addr, reg, rfl⟩
  | _ => exact absurd rfl h

theorem finish_writes_scan (h : ¬ScanKept s (finish i xs s)) : ∃ first, i = .scan first := by
  cases i with
  | scan first => exact ⟨first, rfl⟩
  | _ => exact absurd ⟨rfl, rfl, rfl⟩ h

/-! ## Responders of a scan -/

theorem respondersFrom_length_le (xs : List Level) (k : Nat) (cs : List Byte) :
    (respondersFrom xs k cs).length ≤ cs.length := by
  induction cs generalizing k with
  | nil => exact Nat.le_refl 0
  | cons c cs ih =>
    rw [respondersFrom]
    split
    · exact Nat.le_succ_of_le (ih (k + 1))
    · exact Nat.succ_le_succ (ih (k + 1))

theorem responders_length_le (first : Byte) (xs : List Level) : (responders first xs).length ≤ 8 :=
  respondersFrom_length_le xs 0 (scanCandidates first)

theorem respondersFrom_eq_nil (xs : List Level) (k : Nat) (cs : List Byte) :
    respondersFrom xs k cs = [] ↔ ∀ j < cs.length, sampleAt xs (9 * (j + k)) = true := by
  induction cs generalizing k with
  | nil => simp [respondersFrom]
  | cons c cs ih =>
    rw [respondersFrom, samplesPerCandidate, List.length_cons, Nat.forall_lt_succ_left', Nat.zero_add]
    simp only [Nat.add_assoc, Nat.add_comm 1 k]
    cases sampleAt xs (9 * k) <;> simp [ih]

/-- Nobody responds exactly when the first of every candidate's nine samples is 1 (R120, R142). -/
theorem responders_eq_nil (first : Byte) (xs : List Level) :
    responders first xs = [] ↔ ∀ k < 8, sampleAt xs (9 * k) = true := by
  simpa [responders, scanCandidates, scanCount] using respondersFrom_eq_nil xs 0 (scanCandidates first)

/-! ## What a scan samples when the clock is released at each wait -/

theorem ackTrace_afterBus (s : State) (d c : Level) (r p : Nat) (e : List Event) (j : Nat) :
    ackTrace (s.afterBus d c r p e) j = ackTrace s (r + j) := by
  simp only [ackTrace, sdaAnswer_afterBus]

theorem recvTrace_afterBus (s : State) (d c : Level) (r p : Nat) (e : List Event) (j : Nat) :
    recvTrace (s.afterBus d c r p e) j = recvTrace s (r + j) := by
  simp only [recvTrace, sdaAnswer_afterBus, Nat.add_assoc]

theorem recvTrace_recordAck (e : Byte) (v : Level) (s : State) (j : Nat) :
    recvTrace (recordAck e v s) j = recvTrace s j := rfl

/-- The probe of one candidate takes nine samples and ends with both lines released (R120, R128). -/
theorem releasedAll_probe (c : Byte) (xs : List Level) (s : State) :
    releasedAll (probeOps c) (xs, s) =
      (xs ++ (List.range 9).map fun n => s.sdaAnswer n,
        recordAck 0 (s.sdaAnswer 0) (s.afterBus true true 9 22 (probeTrace s c 0))) := by
  simp only [probeOps, releasedAll_append, releasedAll_start, releasedAll_send, releasedAll_ack, releasedAll_recv,
    releasedAll_sendNack, releasedAll_stop, recordAck_afterBus, sdaAnswer_recordAck, recvTrace_recordAck,
    afterBus_afterBus, sdaAnswer_afterBus, ackTrace_afterBus, recvTrace_afterBus, scanByte, probeTrace]
  simp [List.range_succ, Nat.add_comm]

/-- The samples of a list of candidates are the environment's answers in order, nine for each. -/
theorem releasedAll_probes_samples (cs : List Byte) (xs : List Level) (s : State) :
    (releasedAll (cs.flatMap probeOps) (xs, s)).1 =
      xs ++ (List.range (9 * cs.length)).map fun n => s.sdaAnswer n := by
  induction cs generalizing xs s with
  | nil => simp [releasedAll]
  | cons c cs ih =>
    rw [List.flatMap_cons, releasedAll_append, releasedAll_probe, ih, List.length_cons, Nat.mul_succ, Nat.add_comm,
      List.range_add, List.map_append, List.append_assoc, List.map_map]
    simp only [sdaAnswer_recordAck, sdaAnswer_afterBus, Function.comp_def]

theorem releasedAll_scan_sampleAt (first : Byte) (s : State) (n : Nat) (h : n < 72) :
    sampleAt (releasedAll (scanOps first) ([], s)).1 n = s.sdaAnswer n := by
  rw [scanOps, releasedAll_probes_samples]
  simp [sampleAt, scanCandidates, scanCount, h]

/-! ## The shape of what a list puts on the bus -/

/-- The event of a micro-operation with its sampled value blotted out. -/
def MicroOp.shape : MicroOp → Event
  | .w d c => .wr d c
  | .s => .sm true
  | .ackEnd _ => .wr true false
  | .delay => .dl

/-- One micro-operation records one event, whose shape is the micro-operation's. -/
theorem released_trace (op : MicroOp) (p : List Level × State) :
    ∃ ev, (released op p).2.trace = p.2.trace ++ [ev] ∧ shapeOf [ev] = [op.shape] := by
  rcases op with ⟨d, _ | _⟩ | _ | e | _ <;> exact ⟨_, rfl, rfl⟩

theorem shapeOf_append (a b : List Event) : shapeOf (a ++ b) = shapeOf a ++ shapeOf b := List.map_append

/-- A list none of whose micro-operations is held records one event for each, of its shape. -/
theorem releasedAll_trace (ops : List MicroOp) (p : List Level × State) :
    ∃ evs, (releasedAll ops p).2.trace = p.2.trace ++ evs ∧ shapeOf evs = ops.map MicroOp.shape := by
  induction ops generalizing p with
  | nil => exact ⟨[], (List.append_nil _).symm, rfl⟩
  | cons op ops ih =>
    obtain ⟨ev, here, shape⟩ := released_trace op p
    obtain ⟨evs, there, shapes⟩ := ih (released op p)
    refine ⟨[ev] ++ evs, ?_, ?_⟩
    · rw [releasedAll, List.foldl_cons, ← releasedAll, there, here, List.append_assoc]
    · rw [shapeOf_append, shape, shapes, List.map_cons, List.singleton_append]

theorem finish_trace (i : Instr) (xs : List Level) (s : State) : (finish i xs s).trace = s.trace := by
  cases i <;> rfl

/-- What a completed command adds to the trace has the shape of its list. -/
theorem shapeOf_addedTrace (wf : i.wf = true) (h : exec i s = .next t) (idle : t.busy = false) :
    shapeOf (addedTrace s t) = (opsOf i).map MicroOp.shape := by
  obtain ⟨evs, trace, shape⟩ := releasedAll_trace (opsOf i) ([], s)
  rw [exec_completed wf h idle, addedTrace, finish_trace, trace, List.drop_left, shape]

end Sys2Proof.Machine
end
section
/-! Proofs of the statements about spec/10_state.md. -/

namespace Sys2Proof.Machine

variable {s t : State} {i : Instr} {op : MicroOp} {w : Bool} {xs ys : List Level}

/-- Settles O14: the values of the reset table are those `resultValues` writes, and `BUSY` is read off `SEQ`. -/
theorem powerUpValues : Obligations.PowerUpValues :=
  ⟨rfl, rfl, rfl, rfl, busy_eq_false.mpr rfl, rfl, rfl, rfl, rfl⟩

/-- Settles O38: at power-up the error state is clear, the count 0, the sequencer idle with both lines released, and the
trace empty, so that no sample stands in it. -/
theorem consistentAtPowerUp : Obligations.ConsistentAtPowerUp where
  err := rfl
  scan := Nat.zero_le 8
  seq := fun h => by cases h
  lines := rfl
  samples := fun n v h => by cases h

/-! ## The error flag and its message (R25) -/

/-- What `ack` writes agrees, whatever its descriptor and its sample. -/
theorem errAfterAck_eq (e : Byte) (v : Level) : errAfterAck e v = (errmsgAfterAck e v != 0) := by
  cases h : errAfterAck e v with
  | false => simp [errmsgAfterAck, h]
  | true =>
    have described : (e != 0) = true := (Bool.and_eq_true_iff.mp h).2
    rw [errmsgAfterAck, if_pos h, described]

theorem ErrorKept.errOk (kept : ErrorKept s t) (h : ErrOk s) : ErrOk t := by
  rw [ErrOk, kept.1, kept.2]
  exact h

theorem errOk_applyReset (s : State) : ErrOk (applyReset s) := rfl

theorem attempt_done_errOk (ht : attempt op w xs s = .done ys t) (h : ErrOk s) : ErrOk t := by
  obtain kept | ⟨e, v, -, err, errmsg⟩ := attempt_done_error ht
  · exact kept.errOk h
  · rw [ErrOk, err, errmsg]
    exact errAfterAck_eq e v

theorem finish_errOk (i : Instr) (xs : List Level) (h : ErrOk s) : ErrOk (finish i xs s) :=
  (finish_errorKept i xs s).errOk h

theorem runOps_errOk (i : Instr) (ops : List MicroOp) (k : Nat) (w : Bool) (xs : List Level) (s : State)
    (h : ErrOk s) : ErrOk (runOps i ops k w xs s) :=
  runOps_rule (fun _ _ _ _ t => ErrOk t) ErrOk
    (fun _ _ xs _ h => finish_errOk i xs h)
    (fun _ _ _ _ _ _ _ h ht => (attempt_held_errorKept ht).errOk h)
    (fun _ _ _ _ _ _ _ _ h ht => attempt_done_errOk ht h)
    ops k w xs s h

theorem exec_errOk (ht : exec i s = .next t) (h : ErrOk s) : ErrOk t := by
  obtain ⟨-, rfl⟩ | ⟨-, rfl⟩ := exec_cases ht
  · exact runOps_errOk i _ 0 false [] s h
  · exact h

theorem step_errOk (ht : step s = .next t) (h : ErrOk s) : ErrOk t := by
  obtain ⟨-, rfl⟩ | ⟨-, ⟨i, k, w, xs, -, rfl⟩ | ⟨-, ⟨-, rfl⟩ | ⟨word, rest, e, -, -, rfl⟩ |
    ⟨word, rest, i, -, -, run⟩⟩⟩ := step_cases ht
  · exact errOk_applyReset s
  · exact runOps_errOk i _ k w xs s h
  · exact h
  · exact h
  · exact exec_errOk run h

theorem advance_errOk (h : ErrOk s) : ErrOk (advance s) := by
  unfold advance
  split
  · exact h
  · split
    · exact finish_errOk _ _ h
    · split
      next ht => exact (attempt_held_errorKept ht).errOk h
      next ht =>
        have done := attempt_done_errOk ht h
        split
        · exact done
        · exact finish_errOk _ _ done

theorem microStep_errOk (h : ErrOk s) : ErrOk (microStep s) := by
  unfold microStep
  split
  · exact errOk_applyReset s
  · split
    · exact advance_errOk h
    · split
      · exact h
      · split <;> exact h

/-- Settles O40: the error state is written only by reset, which clears it, and by the decision of `ack`, which sets the
flag exactly when it stores a message that is not 0. -/
theorem errorFlagMatchesMessageAtEveryMoment : Obligations.ErrorFlagMatchesMessageAtEveryMoment :=
  ⟨rfl, fun _ => microStep_errOk, fun _ _ h ht => step_errOk ht h⟩

/-! ## Who writes what -/

/-- Settles O43: in both runs the shape of what was added is that of the command's list of micro-operations. -/
theorem traceShapeDependsOnCommandAlone : Obligations.TraceShapeDependsOnCommandAlone := by
  intro i s s' t t' wf run run' idle idle'
  rw [shapeOf_addedTrace wf run idle, shapeOf_addedTrace wf run' idle']

/-- A command that has not completed, or was illegal, has left the result latches alone. -/
theorem exec_results (h : exec i s = .next t) :
    ResultsKept s t ∨ ∃ ys u, ResultsKept s u ∧ t = finish i ys u := by
  obtain ⟨-, rfl⟩ | ⟨-, rfl⟩ := exec_cases h
  · obtain ⟨ys, u, bus, completed⟩ | ⟨n, ys, u, bus, held⟩ := runOps_cases i (opsOf i) 0 false [] s
    · exact .inr ⟨ys, u, bus.resultsKept, completed⟩
    · rw [runCommand, held]
      exact .inl bus.resultsKept
  · exact .inl ⟨rfl, rfl, rfl, rfl, rfl, rfl⟩

/-- Settles O45: up to completion the result latches are as before, and at completion each is written by the commands
named for it. -/
theorem resultLatchesHaveTheirOwnWriters : Obligations.ResultLatchesHaveTheirOwnWriters := by
  intro i s t h
  obtain ⟨ackr, rxd0, rxd1, scan⟩ | ⟨ys, u, ⟨ackr, rxd0, rxd1, scan⟩, rfl⟩ := exec_results h
  · exact ⟨fun h => absurd ackr h, fun h => absurd rxd0 h, fun h => absurd rxd1 h, fun h => absurd scan h⟩
  · have idle : (finish i ys u).busy = false := finish_busy i ys u
    rw [← ackr, ← rxd0, ← rxd1]
    exact ⟨fun h => ⟨idle, finish_writes_ackr h⟩, fun h => ⟨idle, finish_writes_rxd0 h⟩,
      fun h => ⟨idle, finish_writes_rxd1 h⟩,
      fun h => ⟨idle, finish_writes_scan (xs := ys) (s := u) fun kept => h (scan.trans kept)⟩⟩

theorem exec_errorKept (h : exec i s = .next t) (noAck : hasAck i = false) : ErrorKept s t := by
  obtain ⟨-, rfl⟩ | ⟨-, rfl⟩ := exec_cases h
  · exact runOps_errorKept i _ 0 false [] s (ackEnd_notMem_opsOf noAck)
  · exact ⟨rfl, rfl⟩

/-- Settles O46: a step that is no reset runs the list of the command in progress or of the one taken, and a list with no
`ack` leaves the error state alone; with no word or an illegal one nothing is run. -/
theorem onlyAcknowledgesWriteErrorState : Obligations.OnlyAcknowledgesWriteErrorState := by
  intro s t noReset ht written
  obtain ⟨reset, -⟩ | ⟨-, ⟨i, k, w, xs, seq, rfl⟩ | ⟨seq, ⟨-, rfl⟩ | ⟨word, rest, e, -, -, rfl⟩ |
    ⟨word, rest, i, port, decoded, run⟩⟩⟩ := step_cases ht
  · rw [noReset] at reset
    cases reset
  · refine .inl ⟨i, by rw [State.current, seq], ?_⟩
    by_contra noAck
    exact written (runOps_errorKept i _ k w xs s fun e he =>
      ackEnd_notMem_opsOf (Bool.eq_false_iff.mpr noAck) e (List.mem_of_mem_drop he))
  · exact absurd ⟨rfl, rfl⟩ written
  · exact absurd ⟨rfl, rfl⟩ written
  · refine .inr ⟨by rw [State.current, seq], word, rest, i, port, decoded, ?_⟩
    by_contra noAck
    have kept : ErrorKept (accept word rest s) t := exec_errorKept run (Bool.eq_false_iff.mpr noAck)
    exact written kept

/-! ## How a command ended (R36) -/

/-- A completed `SCAN` has found nobody exactly when its list is empty, which is when its count is 0: the count of at
most eight candidates does not wrap in its four bits. -/
theorem finish_scan_count (first : Byte) (xs : List Level) (s : State) :
    (finish (.scan first) xs s).scancnt = 0 ↔ responders first xs = [] := by
  have bound := responders_length_le first xs
  change BitVec.ofNat 4 (responders first xs).length = 0 ↔ _
  rw [← List.length_eq_zero_iff, ← BitVec.toNat_inj, BitVec.toNat_ofNat, Nat.mod_eq_of_lt (by omega)]
  rfl

/-- The value R36 gives `CAUSE` when command `i` completes in `t`: 1 for a `SCAN` of which `nobody` holds, else 0. -/
abbrev CauseAtEnd (i : Instr) (t : State) (nobody : Prop) : Prop :=
  ((∃ first, i = .scan first) ∧ nobody → t.cause = .noDevice) ∧
  (¬((∃ first, i = .scan first) ∧ nobody) → t.cause = .ok)

/-- What R36 says of `CAUSE` in `t` after command `i` was run from `s`, or went on: kept while the command is held,
written when it has completed. -/
abbrev CauseTells (i : Instr) (s t : State) (nobody : Prop) : Prop :=
  (t.busy = true → t.cause = s.cause) ∧ (t.busy = false → CauseAtEnd i t nobody)

theorem finish_causeAtEnd (i : Instr) (xs : List Level) (s : State) :
    CauseAtEnd i (finish i xs s) ((finish i xs s).scancnt = 0) := by
  constructor
  · rintro ⟨⟨first, rfl⟩, count⟩
    exact scanCause_eq_noDevice ((finish_scan_count first xs s).mp count)
  · intro found
    by_cases scan : ∃ first, i = .scan first
    · obtain ⟨first, rfl⟩ := scan
      exact scanCause_eq_ok fun none => found ⟨⟨first, rfl⟩, (finish_scan_count first xs s).mpr none⟩
    · exact finish_cause_of_not_scan scan xs s

/-- A run tells by `CAUSE` how it ended, whatever position it goes on from. -/
theorem runOps_causeTells {ops : List MicroOp} {k : Nat} (ht : runOps i ops k w xs s = t) :
    CauseTells i s t (t.scancnt = 0) := by
  subst ht
  refine ⟨runOps_busy_cause, fun idle => ?_⟩
  obtain ⟨ys, u, -, completed⟩ := runOps_completed idle
  rw [completed]
  exact finish_causeAtEnd i ys u

/-- The count a completed `SCAN` leaves is 0 exactly when the environment answered 1 to all eight `ack`s. -/
theorem exec_scan_count {first : Byte} (wf : (Instr.scan first).wf = true) (h : exec (.scan first) s = .next t)
    (idle : t.busy = false) : t.scancnt = 0 ↔ ∀ k < 8, s.sdaAnswer (9 * k) = true := by
  rw [exec_completed wf h idle, finish_scan_count, responders_eq_nil]
  refine forall₂_congr fun k hk => ?_
  rw [opsOf, releasedAll_scan_sampleAt first s (9 * k) (by omega)]

/-- For a command run from its beginning the answers to its `ack`s tell what its count would. -/
theorem exec_causeTells (wf : i.wf = true) (h : exec i s = .next t) :
    CauseTells i s t (∀ k < 8, s.sdaAnswer (9 * k) = true) := by
  have run : runCommand i s = t := Host.Outcome.next.inj ((exec_eq_runCommand wf s).symm.trans h)
  obtain ⟨kept, told⟩ : CauseTells i s t (t.scancnt = 0) := runOps_causeTells run
  refine ⟨kept, fun idle => ?_⟩
  have counted : (∃ first, i = .scan first) ∧ t.scancnt = 0 ↔
      (∃ first, i = .scan first) ∧ ∀ k < 8, s.sdaAnswer (9 * k) = true :=
    and_congr_right fun ⟨first, scan⟩ => by
      subst scan
      exact exec_scan_count wf h idle
  rw [CauseAtEnd, ← counted]
  exact told idle

/-- Settles O47, clause by clause: a command from its beginning, one that goes on after a hold, an illegal word, and no
word. -/
theorem causeSaysHowTheCommandEnded : Obligations.CauseSaysHowTheCommandEnded := by
  refine ⟨fun i s t => exec_causeTells, ?_, ?_, ?_⟩
  · intro s t i k w xs noReset seq ht
    rw [step_running noReset seq] at ht
    exact runOps_causeTells (Host.Outcome.next.inj ht)
  · intro s word rest e noReset seq port illegal
    refine ⟨illegalCommand (accept word rest s), ?_, busy_eq_false.mpr rfl, rfl⟩
    simp [step, noReset, seq, port, illegal]
  · intro s noReset seq port
    exact ⟨s, idleBlockChangesNothing s noReset seq port, rfl⟩

/-! ## What the host reads -/

theorem hostRead_scancnt (s : State) : (s.hostRead 4).toNat = s.scancnt.toNat := by
  simp only [State.hostRead, BitVec.toNat_append]
  simp

theorem lines_toNat (s : State) : s.lines.toNat = s.sdaOut.toNat + 2 * s.sclOut.toNat := by
  cases hd : s.sdaOut <;> cases hc : s.sclOut <;> simp [State.lines, hd, hc]

theorem hostRead_scanlist (s : State) (k : Nat) (h : k < 8) : s.hostRead (5 + k) = s.scanlist[k] := by
  interval_cases k <;> rfl

theorem hostRead_unlisted (s : State) (n : Nat) (h : 14 ≤ n) : s.hostRead n = 0 := by
  obtain ⟨m, rfl⟩ := Nat.exists_eq_add_of_le' h
  rfl

/-- Settles O52: register by register, each an arm of the read. -/
theorem registerNumbers : Obligations.RegisterNumbers := fun s =>
  ⟨rfl, rfl, rfl, rfl, hostRead_scancnt s, hostRead_scanlist s, lines_toNat s, hostRead_unlisted s⟩

theorem status_low (s : State) :
    s.status.getLsbD 0 = s.busy ∧ s.status.getLsbD 1 = s.err ∧ s.status.getLsbD 2 = s.ackr := by
  simp only [State.status, BitVec.getLsbD_append]
  simp

theorem status_cause (s : State) : s.status.extractLsb' 3 2 = s.cause.code := by
  ext n hn
  simp only [State.status, BitVec.getElem_extractLsb', BitVec.getLsbD_append]
  simp [hn, show ¬(3 + n < 1) by omega]

theorem status_high (s : State) : s.status.extractLsb' 5 3 = 0 := by
  ext n hn
  simp only [State.status, BitVec.getElem_extractLsb', BitVec.getLsbD_append]
  simp

/-- Settles O53: the three lowest bits, the code of `CAUSE` and the zeros from the layout of `STATUS`, the codes by the
three causes there are. -/
theorem statusBits : Obligations.StatusBits := by
  intro s
  obtain ⟨busy, err, ackr⟩ := status_low s
  refine ⟨busy, err, ackr, status_cause s, status_high s, ?_⟩
  cases s.cause <;> decide

end Sys2Proof.Machine
end

section
/-! Proofs of the statements about spec/20_memory.md: the line primitives (R50, R52) and the clock (R53, R54, R143). -/

namespace Sys2Proof.Machine

variable {s : State} {i : Instr} {k : Nat} {xs : List Level}

/-! ## The line primitives -/

theorem sdaLevel_of_driven (driven : s.sdaOut = false) : s.sdaLevel = false := by
  rw [State.sdaLevel, driven, Bool.false_and]

theorem sdaLevel_of_sdaOut (letGo : s.sdaOut = true) : s.sdaLevel = s.sdaAnswer 0 := by
  rw [State.sdaLevel, letGo, Bool.true_and]

/-- Settles O51: the sample is the data line's level, this block's and the environment's together (R50), and recording
it is all that the read does (R52). -/
theorem sampleFollowsTheOpenDrainRule : Obligations.SampleFollowsTheOpenDrainRule := fun _ =>
  ⟨sdaLevel_of_driven, sdaLevel_of_sdaOut, rfl⟩

/-- The clock line reads 0 when the environment holds it low, whatever this block commands (R50). -/
theorem sclLevel_of_answer_low (low : s.sclAnswer 0 = false) : s.sclLevel = false := by
  rw [State.sclLevel, low, Bool.and_false]

theorem sclLevel_of_sclOut (letGo : s.sclOut = true) : s.sclLevel = s.sclAnswer 0 := by
  rw [State.sclLevel, letGo, Bool.true_and]

/-! ## The clock -/

/-- Settles O33: a command is the run of its list, which completes exactly when each wait of the list is released. -/
theorem completesExactlyWhenClockReleased : Obligations.CompletesExactlyWhenClockReleased := by
  intro i s t wf ran
  rw [exec_eq_runCommand wf] at ran
  cases ran
  rw [ClockReleased, ← waitCount_opsOf]
  refine ⟨released_of_runOps_idle i (opsOf i) 0 [] s, fun high => ?_⟩
  rw [runCommand, runOps_released i (opsOf i) 0 [] s high]
  exact finish_busy i _ _

/-- Settles O35, by induction on the number of steps: each polls once and leaves the command where it stood. -/
theorem stuckClockHoldsForever : Obligations.StuckClockHoldsForever := by
  intro n s i k xs noReset held inside low
  induction n generalizing s with
  | zero => rfl
  | succ n ih =>
    have polled : step s = .next s.addPoll :=
      step_held noReset held inside (sclLevel_of_answer_low (low 0 n.succ_pos))
    have lowAfter : ∀ j < n, s.addPoll.sclAnswer j = false := fun j hj => by
      rw [sclAnswer_addPoll, Nat.add_comm]
      exact low (j + 1) (Nat.succ_lt_succ hj)
    rw [core_run_next polled, ih s.addPoll noReset held lowAfter, Nat.add_comm n 1, ← Nat.add_assoc]
    rfl

/-- A trace that ends with a line write leaves the lines as that write commanded them (R21, R51). -/
theorem linesAfter_of_getLast {tr : List Event} {d c : Level} (last : tr.getLast? = some (.wr d c)) :
    linesAfter tr = (d, c) := by
  obtain ⟨before, rfl⟩ := List.getLast?_eq_some_iff.mp last
  simp [linesAfter, writesOf]

/-- Between steps a command in progress waits at a line update that released the clock, and the clock stands released
(R34, R53). -/
theorem Consistent.held (h : Consistent s) (current : s.current = some i) :
    ∃ k xs d, s.seq = .running i k true xs ∧ (opsOf i)[k]? = some (.w d true) ∧ s.sclOut = true := by
  have seqOk := h.seq
  unfold SeqOk at seqOk
  unfold State.current at current
  cases seq : s.seq with
  | idle => rw [seq] at current; cases current
  | running j k w xs =>
    rw [seq] at current seqOk
    cases current
    obtain ⟨-, -, rfl, -, d, op, written⟩ := seqOk
    have lines : (s.sdaOut, s.sclOut) = (d, true) :=
      h.lines.trans (linesAfter_of_getLast written)
    exact ⟨k, xs, d, rfl, op, congrArg Prod.snd lines⟩

/-- The list is what stands before position `k`, the waiting update itself, and what stands after it: the update's own
wait is the one that the rest lacks. -/
theorem waitCount_drop_lt {ops : List MicroOp} {d : Level} (op : ops[k]? = some (.w d true)) :
    waitCount (ops.drop (k + 1)) < waitCount ops := by
  obtain ⟨inside, at_k⟩ := List.getElem?_eq_some_iff.mp op
  have parts : waitCount ops = waitCount (ops.take k) + waitCount (.w d true :: ops.drop (k + 1)) := by
    rw [← waitCount_append, ← at_k, List.getElem_cons_drop, List.take_append_drop]
  rw [parts, waitCount]
  omega

/-- A held command completes in one step when its own poll and each wait after it are released (R53, R143). -/
theorem step_completes {d : Level} (noReset : s.rstIn = false) (held : s.seq = .running i k true xs)
    (op : (opsOf i)[k]? = some (.w d true)) (letGo : s.sclOut = true) (high : ClockReleased s (waitsOf i)) :
    ∃ u, step s = .next u ∧ u.busy = false := by
  have fewer : waitCount ((opsOf i).drop (k + 1)) < waitsOf i := waitCount_opsOf i ▸ waitCount_drop_lt op
  obtain ⟨inside, -⟩ := List.getElem?_eq_some_iff.mp op
  have poll : s.sclLevel = true := (sclLevel_of_sclOut letGo).trans (high 0 (by omega))
  refine ⟨_, step_released noReset held inside poll, ?_⟩
  rw [runOps_released i _ _ _ _ fun j hj => ?_]
  · exact finish_busy i _ _
  · rw [sclAnswer_addPoll]
    exact high (1 + j) (by omega)

/-- Settles O55: each of the first `n` steps leaves the command where it stood (`stuckClockHoldsForever`), and in the
state after them the clock is released at its own poll and at each later wait (`step_completes`). -/
theorem heldCommandCompletesOnceReleased : Obligations.HeldCommandCompletesOnceReleased := by
  intro n s i consistent noReset current low high
  obtain ⟨k, xs, d, held, op, letGo⟩ := consistent.held current
  obtain ⟨inside, -⟩ := List.getElem?_eq_some_iff.mp op
  have stays : ∀ m ≤ n, Sys2Proof.core.run m s = .next { s with sclPolls := s.sclPolls + m } := fun m hm =>
    stuckClockHoldsForever m s i k xs noReset held inside fun j hj => low j (by omega)
  constructor
  · intro m hm
    exact ⟨_, stays m hm, busy_eq_true.mpr (by simp [held])⟩
  · have highLater : ClockReleased { s with sclPolls := s.sclPolls + n } (waitsOf i) := fun j hj => by
      have later := high j hj
      rwa [State.sclAnswer, ← Nat.add_assoc] at later
    obtain ⟨u, ended, idle⟩ :=
      step_completes (s := { s with sclPolls := s.sclPolls + n }) noReset held op letGo highLater
    exact ⟨u, by rw [core_run_add n 1 (stays n le_rfl), core_run_next ended]; rfl, idle⟩

end Sys2Proof.Machine
end

section
/-! SUPPORT. The decoder said row by row, for the statements about spec/30_encoding.md: which bits the row of a command
requires to be zero, which command a word of that row carries, and what match and mask select. -/

namespace Sys2Proof

variable {w : CmdWord} {i j : Instr}

/-! ## The row of a command -/

/-- Whether the bits that the format of `i`'s row requires to be zero are zero in `w` (R81, R82). -/
def zeroBits : Instr → CmdWord → Bool
  | .send _ | .ack _ => zeroC8
  | .scan _ => zeroA8
  | .writeReg _ _ _ => zeroA7BC
  | .readReg _ _ | .readRegWord _ _ => zeroA7B
  | _ => zeroN

/-- The command of `i`'s row with its operands read from the fields of `w` (R80, R83). -/
def withFields (i : Instr) (w : CmdWord) : Instr :=
  match i with
  | .send _ => .send (cField w)
  | .ack _ => .ack (cField w)
  | .scan _ => .scan (aField w)
  | .writeReg _ _ _ => .writeReg (a7Field w) (bField w) (cField w)
  | .readReg _ _ => .readReg (a7Field w) (bField w)
  | .readRegWord _ _ => .readRegWord (a7Field w) (bField w)
  | i => i

/-! ## Decoding, by rows -/

theorem accepted_eq_ok {zero : Bool} : accepted zero j = .ok i ↔ zero = true ∧ j = i := by
  cases zero <;> simp [accepted]

/-- On a word with the opcode of `i`'s row the decoder takes the command of that row when the row's zero bits are zero
and it is no `SCAN` above the bound (R82, R84). -/
theorem decode_of_opcField (row : opcField w = opcodeOf i) :
    decode w = .ok j ↔ zeroBits i w = true ∧ (withFields i w).wf = true ∧ withFields i w = j := by
  cases i with
  | scan first =>
    rw [decode, row]
    change (if zeroA8 w && !(Instr.scan (aField w)).wf then _ else accepted (zeroA8 w) (.scan (aField w))) = _ ↔
      zeroA8 w = true ∧ (Instr.scan (aField w)).wf = true ∧ Instr.scan (aField w) = j
    cases zeroA8 w <;> cases (Instr.scan (aField w)).wf <;> simp [accepted]
  | _ =>
    rw [decode, row]
    exact accepted_eq_ok.trans (and_congr_right fun _ => (and_iff_right rfl).symm)

/-- The opcode of a word that decodes is that of the command (R82). -/
theorem opcField_of_decode (h : decode w = .ok i) : opcField w = opcodeOf i := by
  unfold decode at h
  split at h
  case h_8 opc =>
    split at h
    · cases h
    · obtain ⟨-, rfl⟩ := accepted_eq_ok.mp h
      exact BitVec.eq_of_toNat_eq opc
  case h_12 => cases h
  all_goals
    rename_i opc
    obtain ⟨-, rfl⟩ := accepted_eq_ok.mp h
    exact BitVec.eq_of_toNat_eq opc

/-- What it is for a word to decode to `i`: the opcode and the zero bits of `i`'s row, the bound on a `SCAN`, and the
operands in their fields (R80 to R84). -/
theorem decode_eq_ok :
    decode w = .ok i ↔ opcField w = opcodeOf i ∧ zeroBits i w = true ∧ i.wf = true ∧ withFields i w = i := by
  constructor
  · intro h
    have row := opcField_of_decode h
    obtain ⟨zero, wf, fields⟩ := (decode_of_opcField row).mp h
    exact ⟨row, zero, fields ▸ wf, fields⟩
  · rintro ⟨row, zero, wf, fields⟩
    exact (decode_of_opcField row).mpr ⟨zero, fields.symm ▸ wf, fields⟩

/-! ## Encoding, by rows -/

@[simp] theorem a7Field_packWord (opc z : BitVec 4) (a b c : Byte) :
    a7Field (packWord opc z a b c) = a.extractLsb' 0 7 := by rw [a7Field_eq, aField_packWord]

@[simp] theorem a7High_packWord (opc z : BitVec 4) (a b c : Byte) :
    a7High (packWord opc z a b c) = a.extractLsb' 7 1 := by rw [a7High_eq, aField_packWord]

theorem opcField_encode (i : Instr) : opcField (encode i) = opcodeOf i := by
  cases i <;> exact opcField_packWord ..

theorem zeroBits_encode (i : Instr) : zeroBits i (encode i) = true := by
  cases i <;> simp [zeroBits, encode, zeroN, zeroC8, zeroA8, zeroA7B, zeroA7BC]

theorem withFields_encode (i : Instr) : withFields i (encode i) = i := by
  cases i <;> simp [withFields, encode]

theorem a7Operand_a7Field (high : a7High w = 0) : a7Operand (a7Field w) = aField w := by
  rw [a7Field_eq]
  exact a7Operand_extract _ (a7High_eq w ▸ high)

/-- A word with the opcode and the zero bits of `i`'s row is the word of the command it carries there. -/
theorem encode_withFields (row : opcField w = opcodeOf i) (zero : zeroBits i w = true) :
    encode (withFields i w) = w := by
  conv_rhs => rw [← packWord_fields w, row]
  cases i with
  | send | ack =>
    obtain ⟨⟨z, a⟩, b⟩ : (zField w = 0 ∧ aField w = 0) ∧ bField w = 0 := by simpa [zeroBits, zeroC8] using zero
    rw [z, a, b]
    rfl
  | scan =>
    obtain ⟨⟨z, b⟩, c⟩ : (zField w = 0 ∧ bField w = 0) ∧ cField w = 0 := by simpa [zeroBits, zeroA8] using zero
    rw [z, b, c]
    rfl
  | writeReg =>
    obtain ⟨z, high⟩ : zField w = 0 ∧ a7High w = 0 := by simpa [zeroBits, zeroA7BC] using zero
    rw [z, ← a7Operand_a7Field high]
    rfl
  | readReg | readRegWord =>
    obtain ⟨⟨z, high⟩, c⟩ : (zField w = 0 ∧ a7High w = 0) ∧ cField w = 0 := by simpa [zeroBits, zeroA7B] using zero
    rw [z, ← a7Operand_a7Field high, c]
    rfl
  | _ =>
    obtain ⟨⟨⟨z, a⟩, b⟩, c⟩ : ((zField w = 0 ∧ aField w = 0) ∧ bField w = 0) ∧ cField w = 0 := by
      simpa [zeroBits, zeroN] using zero
    rw [z, a, b, c]
    rfl

/-! ## Match and mask -/

/-- Two words are the same word when their five fields are (R80). -/
theorem eq_iff_fields {v : CmdWord} : w = v ↔
    opcField w = opcField v ∧ zField w = zField v ∧ aField w = aField v ∧ bField w = bField v ∧
      cField w = cField v := by
  constructor
  · rintro rfl
    exact ⟨rfl, rfl, rfl, rfl, rfl⟩
  · rintro ⟨opc, z, a, b, c⟩
    rw [← packWord_fields w, opc, z, a, b, c, packWord_fields]

/-- Selection is field by field. -/
theorem selectsRow_iff_fields {row : CmdWord × CmdWord} : selectsRow w row = true ↔
    opcField w &&& opcField row.2 = opcField row.1 ∧ zField w &&& zField row.2 = zField row.1 ∧
      aField w &&& aField row.2 = aField row.1 ∧ bField w &&& bField row.2 = bField row.1 ∧
      cField w &&& cField row.2 = cField row.1 := by
  rw [selectsRow, beq_iff_eq, eq_iff_fields]
  simp only [opcField, zField, aField, bField, cField, BitVec.extractLsb'_and]

/-- The mask 0x80 keeps bit 7 of a byte. -/
theorem and_highMask_eq_zero : ∀ x : Byte, x &&& 0x80#8 = 0#8 ↔ x.extractLsb' 7 1 = 0#1 := by decide

/-- A row whose mask covers the opcode and the reserved field selects by them and by what it covers of the operands. -/
theorem selectsRow_packWord {a b c : Byte}
    (row : tableRow i = (packWord (opcodeOf i) 0 0 0 0, packWord 0xF#4 0xF#4 a b c)) :
    selectsRow w (tableRow i) = true ↔
      opcField w = opcodeOf i ∧ zField w = 0 ∧ aField w &&& a = 0 ∧ bField w &&& b = 0 ∧ cField w &&& c = 0 := by
  have whole (x : BitVec 4) : x &&& 0xF#4 = x := BitVec.and_allOnes
  rw [row, selectsRow_iff_fields]
  simp only [opcField_packWord, zField_packWord, aField_packWord, bField_packWord, cField_packWord, whole]

/-- Match and mask of a command's row select the words with its opcode and its zero bits (R81, R82). -/
theorem selectsRow_tableRow : selectsRow w (tableRow i) = true ↔ opcField w = opcodeOf i ∧ zeroBits i w = true := by
  have whole (x : Byte) : x &&& 0xFF#8 = x := BitVec.and_allOnes
  cases i with
  | send | ack =>
    rw [selectsRow_packWord (a := 0xFF#8) (b := 0xFF#8) (c := 0#8) (by simp only [tableRow, opcodeOf]; decide)]
    simp [zeroBits, zeroC8, whole, and_assoc]
  | scan =>
    rw [selectsRow_packWord (a := 0#8) (b := 0xFF#8) (c := 0xFF#8) (by simp only [tableRow, opcodeOf]; decide)]
    simp [zeroBits, zeroA8, whole, and_assoc]
  | writeReg =>
    rw [selectsRow_packWord (a := 0x80#8) (b := 0#8) (c := 0#8) (by simp only [tableRow, opcodeOf]; decide)]
    simp [zeroBits, zeroA7BC, a7High_eq, and_highMask_eq_zero]
  | readReg | readRegWord =>
    rw [selectsRow_packWord (a := 0x80#8) (b := 0#8) (c := 0xFF#8) (by simp only [tableRow, opcodeOf]; decide)]
    simp [zeroBits, zeroA7B, a7High_eq, and_highMask_eq_zero, whole, and_assoc]
  | _ =>
    rw [selectsRow_packWord (a := 0xFF#8) (b := 0xFF#8) (c := 0xFF#8) (by simp only [tableRow, opcodeOf]; decide)]
    simp [zeroBits, zeroN, whole, and_assoc]

/-- Every command has its row in the table. -/
theorem tableRow_mem (i : Instr) : tableRow i ∈ tableRows := by
  cases i <;> simp [tableRows, tableRow]

/-- Each mask of the table covers the opcode. -/
theorem opcField_of_selectsRow {row : CmdWord × CmdWord} (listed : row ∈ tableRows) (h : selectsRow w row = true) :
    opcField w = opcField row.1 := by
  obtain ⟨i, -, rfl⟩ := List.mem_map.mp listed
  rw [(selectsRow_tableRow.mp h).1]
  cases i <;> simp only [opcodeOf, tableRow] <;> decide

/-- The one ill-formed command that a word can carry in the fields of its row is a `SCAN` above the bound (R84). -/
theorem withFields_wf (row : opcField w = opcodeOf i) :
    (withFields i w).wf = true ↔ ¬(opcField w = 8 ∧ 0xF1#8 < aField w) := by
  rw [row]
  cases i with
  | scan =>
    rw [withFields, Instr.wf, decide_eq_true_iff]
    simp [maxScanStart, opcodeOf]
  | _ => simp [withFields, Instr.wf, opcodeOf]

end Sys2Proof
end

section
/-! SUPPORT. The assembler said command by command, for the statements about text (spec/30_encoding.md R87): which
mnemonics there are, and what the operands of each give. -/

namespace Sys2Proof.Machine

variable {i : Instr} {m line : List Char} {ns bs : List Nat} {w : CmdWord}

/-- How the assembler takes the operands of `i`'s mnemonic (R87). -/
def takeOperands : Instr → List Nat → Except AsmError CmdWord
  | .start => asm0 .start
  | .stop => asm0 .stop
  | .send _ => asm1 .send
  | .read => asm0 .read
  | .ack _ => asmAck
  | .sendAck => asm0 .sendAck
  | .sendNack => asm0 .sendNack
  | .scan _ => asm1 .scan
  | .writeReg _ _ _ => asmWriteReg
  | .readReg _ _ => asm2 .readReg
  | .readRegWord _ _ => asm2 .readRegWord

/-! ## Mnemonics -/

theorem asmTable_lookup (i : Instr) : asmTable.lookup (mnemonicOf i) = some (takeOperands i) := by
  cases i <;> rfl

/-- A word with an entry in the assembler's table is a mnemonic of R87. -/
theorem exists_mnemonicOf_of_lookup {take : List Nat → Except AsmError CmdWord}
    (h : asmTable.lookup m = some take) : ∃ i, m = mnemonicOf i := by
  obtain ⟨before, after, table, -⟩ := List.lookup_eq_some_iff.mp h
  have listed : m ∈ asmTable.map Prod.fst := by rw [table]; simp
  have commands : asmTable.map Prod.fst = [Instr.start, .stop, .send 0, .read, .ack 0, .sendAck, .sendNack, .scan 0,
    .writeReg 0 0 0, .readReg 0 0, .readRegWord 0 0].map mnemonicOf := rfl
  rw [commands] at listed
  obtain ⟨i, -, rfl⟩ := List.mem_map.mp listed
  exact ⟨i, rfl⟩

/-- A word with bounds for operands is a mnemonic. -/
theorem exists_mnemonicOf_of_operandBounds (h : operandBounds m = some bs) : ∃ i, m = mnemonicOf i := by
  by_contra none
  have other (i : Instr) : m ≠ mnemonicOf i := fun same => none ⟨i, same⟩
  simp [operandBounds, other] at h

theorem operandBounds_mnemonicOf (i : Instr) : (operandBounds (mnemonicOf i)).isSome = true := by
  cases i <;> rfl

/-! ## Lines -/

theorem assembleLine_unknown {words : List (List Char)} (reads : lineWords line = m :: words)
    (unknown : ∀ i, m ≠ mnemonicOf i) : assembleLine line = .error .unknownMnemonic := by
  have none : asmTable.lookup m = none := by
    by_contra some
    obtain ⟨take, h⟩ := Option.ne_none_iff_exists'.mp some
    obtain ⟨i, rfl⟩ := exists_mnemonicOf_of_lookup h
    exact unknown i rfl
  simp [assembleLine, reads, assembleWords, none]

theorem assembleLine_notANumber {words : List (List Char)} (reads : lineWords line = mnemonicOf i :: words)
    (bad : parseNumbers words = none) : assembleLine line = .error .notANumber := by
  simp [assembleLine, reads, assembleWords, asmTable_lookup, bad]

/-- A line that reads as a mnemonic and numbers gives what the mnemonic makes of the numbers. -/
theorem assembleLine_reads (reads : LineReads line (mnemonicOf i) ns) :
    assembleLine line = (takeOperands i ns).map some := by
  obtain ⟨words, split, numbers⟩ := reads
  simp only [assembleLine, split, assembleWords, asmTable_lookup, numbers]
  cases takeOperands i ns <;> rfl

theorem assembleLine_noWord (blank : lineWords line = []) : assembleLine line = .ok none := by
  rw [assembleLine, blank]

/-- A line that assembles to a word reads as a mnemonic and numbers. -/
theorem exists_reads_of_assembleLine (h : assembleLine line = .ok (some w)) :
    ∃ i ns, LineReads line (mnemonicOf i) ns ∧ takeOperands i ns = .ok w := by
  cases split : lineWords line with
  | nil =>
    rw [assembleLine_noWord split] at h
    cases h
  | cons m words =>
    by_cases known : ∃ i, m = mnemonicOf i
    · obtain ⟨i, rfl⟩ := known
      cases numbers : parseNumbers words with
      | none =>
        rw [assembleLine_notANumber split numbers] at h
        cases h
      | some ns =>
        have reads : LineReads line (mnemonicOf i) ns := ⟨words, split, numbers⟩
        rw [assembleLine_reads reads] at h
        cases taken : takeOperands i ns with
        | error e => rw [taken] at h; cases h
        | ok v => rw [taken] at h; cases h; exact ⟨i, ns, reads, taken⟩
    · rw [assembleLine_unknown split (not_exists.mp known)] at h
      cases h

/-! ## Operands -/

/-- The numbers that stand for the operands of `i`: its operands, or none for `ACK 0` (R87). -/
def Stands (i : Instr) (ns : List Nat) : Prop := ns = operandsOf i ∨ (i = .ack 0 ∧ ns = [])

theorem lineSays_iff : LineSays line i ↔ ∃ ns, LineReads line (mnemonicOf i) ns ∧ Stands i ns := by
  constructor
  · rintro (reads | ⟨ack, reads⟩)
    · exact ⟨_, reads, .inl rfl⟩
    · exact ⟨_, reads, .inr ⟨ack, rfl⟩⟩
  · rintro ⟨ns, reads, rfl | ⟨ack, rfl⟩⟩
    · exact .inl reads
    · exact .inr ⟨ack, reads⟩

/-- The operands of a well-formed command are taken as they stand. -/
theorem takeOperands_of_stands (wf : i.wf = true) (stands : Stands i ns) : takeOperands i ns = .ok (encode i) := by
  obtain rfl | ⟨rfl, rfl⟩ := stands
  · cases i with
    | send byte => exact asm1_eq_ok.mpr ⟨byte, rfl, rfl, rfl⟩
    | ack e => exact asmAck_eq_ok.mpr ⟨e, .inl rfl, rfl⟩
    | scan first => exact asm1_eq_ok.mpr ⟨first, wf, rfl, rfl⟩
    | writeReg addr reg value => exact asmWriteReg_eq_ok.mpr ⟨addr, reg, value, rfl, rfl⟩
    | readReg addr reg => exact asm2_eq_ok.mpr ⟨addr, reg, rfl, rfl⟩
    | readRegWord addr reg => exact asm2_eq_ok.mpr ⟨addr, reg, rfl, rfl⟩
    | _ => rfl
  · rfl

/-- Numbers that are taken are the operands of a well-formed command with the mnemonic. -/
theorem exists_stands_of_takeOperands (h : takeOperands i ns = .ok w) :
    ∃ j, mnemonicOf j = mnemonicOf i ∧ j.wf = true ∧ Stands j ns ∧ w = encode j := by
  cases i with
  | send =>
    obtain ⟨byte, wf, rfl, rfl⟩ := asm1_eq_ok.mp h
    exact ⟨.send byte, rfl, wf, .inl rfl, rfl⟩
  | ack =>
    obtain ⟨e, rfl | ⟨rfl, rfl⟩, rfl⟩ := asmAck_eq_ok.mp h
    · exact ⟨.ack e, rfl, rfl, .inl rfl, rfl⟩
    · exact ⟨.ack 0, rfl, rfl, .inr ⟨rfl, rfl⟩, rfl⟩
  | scan =>
    obtain ⟨first, wf, rfl, rfl⟩ := asm1_eq_ok.mp h
    exact ⟨.scan first, rfl, wf, .inl rfl, rfl⟩
  | writeReg =>
    obtain ⟨addr, reg, value, rfl, rfl⟩ := asmWriteReg_eq_ok.mp h
    exact ⟨.writeReg addr reg value, rfl, rfl, .inl rfl, rfl⟩
  | readReg =>
    obtain ⟨addr, reg, rfl, rfl⟩ := asm2_eq_ok.mp h
    exact ⟨.readReg addr reg, rfl, rfl, .inl rfl, rfl⟩
  | readRegWord =>
    obtain ⟨addr, reg, rfl, rfl⟩ := asm2_eq_ok.mp h
    exact ⟨.readRegWord addr reg, rfl, rfl, .inl rfl, rfl⟩
  | _ =>
    obtain ⟨rfl, rfl⟩ := asm0_eq_ok.mp h
    exact ⟨_, rfl, rfl, .inl rfl, rfl⟩

/-! ## Operands out of range, and wrong counts -/

theorem asm0_operandCount (h : ns.length ≠ 0) : asm0 i ns = .error .operandCount := by
  unfold asm0
  split
  exacts [absurd rfl h, rfl]

theorem asm1_operandCount {make : Byte → Instr} (h : ns.length ≠ 1) : asm1 make ns = .error .operandCount := by
  unfold asm1
  split
  exacts [absurd rfl h, rfl]

theorem asmAck_operandCount (h : ns.length ≠ 1) (given : ns ≠ []) : asmAck ns = .error .operandCount := by
  cases ns with
  | nil => exact absurd rfl given
  | cons n ns => exact asm1_operandCount h

theorem asm2_operandCount {make : Addr7 → Byte → Instr} (h : ns.length ≠ 2) :
    asm2 make ns = .error .operandCount := by
  unfold asm2
  split
  exacts [absurd rfl h, rfl]

theorem asmWriteReg_operandCount (h : ns.length ≠ 3) : asmWriteReg ns = .error .operandCount := by
  unfold asmWriteReg
  split
  exacts [absurd rfl h, rfl]

/-- A wrong count of operands, but for the one that `ACK` may leave out, is an error (R87). -/
theorem takeOperands_operandCount (bounds : operandBounds (mnemonicOf i) = some bs) (count : ns.length ≠ bs.length)
    (given : ¬(mnemonicOf i = mnemonicOf (.ack 0) ∧ ns = [])) : takeOperands i ns = .error .operandCount := by
  cases i with
  | send | scan => cases bounds; exact asm1_operandCount count
  | ack => cases bounds; exact asmAck_operandCount count fun none => given ⟨rfl, none⟩
  | writeReg => cases bounds; exact asmWriteReg_operandCount count
  | readReg | readRegWord => cases bounds; exact asm2_operandCount count
  | _ => cases bounds; exact asm0_operandCount count

/-- A number that fits a byte and is the start of a well-formed `SCAN` is within the bound. -/
theorem le_of_scan_wf {n : Nat} (fits : n < 256) (wf : (Instr.scan (BitVec.ofNat 8 n)).wf = true) : n ≤ 0xF1 := by
  have bound : (BitVec.ofNat 8 n).toNat ≤ 0xF1 := BitVec.le_def.mp (of_decide_eq_true wf)
  rwa [BitVec.toNat_ofNat, Nat.mod_eq_of_lt fits] at bound

/-- An operand past its bound is an error (R87). -/
theorem takeOperands_outOfRange (bounds : operandBounds (mnemonicOf i) = some bs) (count : ns.length = bs.length)
    (notWithin : ¬List.Forall₂ (· ≤ ·) ns bs) : takeOperands i ns = .error .outOfRange := by
  cases i with
  | send | ack =>
    cases bounds
    obtain ⟨n, rfl⟩ := List.length_eq_one_iff.mp count
    exact if_neg fun ⟨fits, _⟩ => notWithin (.cons (Nat.le_of_lt_succ fits) .nil)
  | scan =>
    cases bounds
    obtain ⟨n, rfl⟩ := List.length_eq_one_iff.mp count
    exact if_neg fun ⟨fits, wf⟩ => notWithin (.cons (le_of_scan_wf fits wf) .nil)
  | writeReg =>
    cases bounds
    obtain ⟨a, r, v, rfl⟩ := List.length_eq_three.mp count
    exact if_neg fun ⟨ha, hr, hv⟩ => notWithin
      (.cons (Nat.le_of_lt_succ ha) (.cons (Nat.le_of_lt_succ hr) (.cons (Nat.le_of_lt_succ hv) .nil)))
  | readReg | readRegWord =>
    cases bounds
    obtain ⟨a, r, rfl⟩ := List.length_eq_two.mp count
    exact if_neg fun ⟨ha, hr⟩ => notWithin (.cons (Nat.le_of_lt_succ ha) (.cons (Nat.le_of_lt_succ hr) .nil))
  | _ =>
    cases bounds
    obtain rfl := List.length_eq_zero_iff.mp count
    exact absurd .nil notWithin

/-- Numbers within their bounds hold none that is past its own. -/
theorem not_within_of_past {k n b : Nat} (number : ns[k]? = some n) (bound : bs[k]? = some b) (past : b < n) :
    ¬List.Forall₂ (· ≤ ·) ns bs := by
  intro within
  obtain ⟨hn, rfl⟩ := List.getElem?_eq_some_iff.mp number
  obtain ⟨hb, rfl⟩ := List.getElem?_eq_some_iff.mp bound
  exact absurd past (Nat.not_lt.mpr (within.get hn hb))

end Sys2Proof.Machine
end

section
/-! SUPPORT. Text as the spec writes it: a number reads as itself (spec/00_scope.md R8), and a line falls into its
mnemonic and its operands (spec/30_encoding.md R87). -/

namespace Sys2Proof.Machine

/-! ## Numbers -/

/-- Digits written in a base, in whatever form each of them has its value, read as the number they write. -/
theorem digitsFrom_map_toDigits {base : Nat} (form : Char → Char) (hbase : 1 < base)
    (value : ∀ d < base, digitValue (form (Nat.digitChar d)) = d) (n : Nat) :
    digitsFrom base 0 ((Nat.toDigits base n).map form) = some n := by
  induction n using Nat.strongRecOn with
  | ind n ih =>
    by_cases small : n < base
    · simp [Nat.toDigits_of_lt_base small, digitsFrom, value n small, small]
    · have digit : n % base < base := Nat.mod_lt n (by omega)
      have before := ih (n / base) (Nat.div_lt_self (by omega) hbase)
      rw [Nat.toDigits_of_base_le hbase (by omega), List.map_append, digitsFrom_append, before]
      simp [digitsFrom, value _ digit, digit, Nat.div_add_mod']

theorem digitsFrom_toDigits {base : Nat} (hbase : 1 < base) (small : base ≤ 16) (n : Nat) :
    digitsFrom base 0 (Nat.toDigits base n) = some n := by
  have read := digitsFrom_map_toDigits id hbase (fun d hd => (digitValue_digitChar d (hd.trans_le small)).1) n
  rwa [List.map_id] at read

/-- Leading zeros leave a number as it is. -/
theorem digitsFrom_zeros {base : Nat} (hbase : 1 < base) (zeros : Nat) (ds : List Char) :
    digitsFrom base 0 (List.replicate zeros '0' ++ ds) = digitsFrom base 0 ds := by
  have zero : digitValue '0' = 0 := rfl
  induction zeros with
  | zero => rfl
  | succ zeros ih =>
    rw [List.replicate_succ, List.cons_append, digitsFrom, zero, if_pos (by omega), Nat.zero_mul]
    exact ih

/-- What reads as a number in a base holds digits of that base only. -/
theorem digitValue_lt_of_digitsFrom {base value n : Nat} {ds : List Char} (h : digitsFrom base value ds = some n) :
    ∀ c ∈ ds, digitValue c < base := by
  induction ds generalizing value with
  | nil => simp
  | cons d ds ih =>
    rw [digitsFrom] at h
    split at h
    · exact List.forall_mem_cons.mpr ⟨‹_›, ih h⟩
    · cases h

theorem parseNumber_hex {ds : List Char} (begun : ds ≠ []) : parseNumber ('0' :: 'x' :: ds) = digitsFrom 16 0 ds := by
  cases ds with
  | nil => exact absurd rfl begun
  | cons d ds => rfl

theorem parseNumber_binary {ds : List Char} (begun : ds ≠ []) : parseNumber ('0' :: 'b' :: ds) = digitsFrom 2 0 ds := by
  cases ds with
  | nil => exact absurd rfl begun
  | cons d ds => rfl

/-- A word of decimal digits carries no mark of another base. -/
theorem parseNumber_decimal {ds : List Char} {n : Nat} (begun : ds ≠ []) (h : digitsFrom 10 0 ds = some n) :
    parseNumber ds = some n := by
  have decimal := digitValue_lt_of_digitsFrom h
  unfold parseNumber
  split
  · exact absurd (decimal 'x' (by simp)) (by decide)
  · exact absurd (decimal 'b' (by simp)) (by decide)
  · exact h
  · exact absurd rfl begun

/-- A number written in any of the ways of R8 reads as that number. -/
theorem parseNumber_of_writes {word : List Char} {n : Nat} (h : Writes word n) : parseNumber word = some n := by
  obtain rfl | ⟨zeros, rfl⟩ | ⟨zeros, rfl⟩ := h
  · exact parseNumber_decimal Nat.toDigits_ne_nil (digitsFrom_toDigits (by omega) (by omega) n)
  · rw [parseNumber_hex (by simp [Nat.toDigits_ne_nil]), digitsFrom_zeros (by omega)]
    exact digitsFrom_map_toDigits Char.toUpper (by omega) (fun d hd => (digitValue_digitChar d hd).2) n
  · rw [parseNumber_binary (by simp [Nat.toDigits_ne_nil]), digitsFrom_zeros (by omega)]
    exact digitsFrom_toDigits (by omega) (by omega) n

theorem parseNumbers_of_writes {words : List (List Char)} {numbers : List Nat}
    (h : List.Forall₂ Writes words numbers) : parseNumbers words = some numbers := by
  induction h with
  | nil => rfl
  | cons writes _ ih => rw [parseNumbers, parseNumber_of_writes writes, ih]

/-! ## Words -/

/-- A character of a word: it separates nothing and opens no comment. -/
abbrev Plain (c : Char) : Prop := isSeparator c = false ∧ c ≠ ';'

theorem plain_of_digitValue {c : Char} (h : digitValue c < 16) : Plain c := by
  have ne {d : Char} (noDigit : digitValue d = 16) : c ≠ d := by
    rintro rfl
    omega
  have blank : c ≠ ' ' := ne rfl
  have tab : c ≠ '\t' := ne rfl
  have comma : c ≠ ',' := ne rfl
  exact ⟨by simp [isSeparator, blank, tab, comma], ne rfl⟩

/-- What reads as a number has no separator in it and opens no comment. -/
theorem plain_of_parseNumber {word : List Char} {n : Nat} (h : parseNumber word = some n) :
    word ≠ [] ∧ ∀ c ∈ word, Plain c := by
  have digits {base : Nat} {ds : List Char} (hbase : base ≤ 16) (h : digitsFrom base 0 ds = some n) :
      ∀ c ∈ ds, Plain c := fun c hc => plain_of_digitValue ((digitValue_lt_of_digitsFrom h c hc).trans_le hbase)
  have zero : Plain '0' := by decide
  have x : Plain 'x' := by decide
  have b : Plain 'b' := by decide
  unfold parseNumber at h
  split at h
  · exact ⟨by simp, List.forall_mem_cons.mpr ⟨zero, List.forall_mem_cons.mpr ⟨x, digits le_rfl h⟩⟩⟩
  · exact ⟨by simp, List.forall_mem_cons.mpr ⟨zero, List.forall_mem_cons.mpr ⟨b, digits (by omega) h⟩⟩⟩
  · exact ⟨by simp, digits (by omega) h⟩
  · cases h

theorem plain_of_writes {words : List (List Char)} {numbers : List Nat} (h : List.Forall₂ Writes words numbers) :
    ∀ word ∈ words, word ≠ [] ∧ ∀ c ∈ word, Plain c := by
  induction h with
  | nil => simp
  | cons writes _ ih => exact List.forall_mem_cons.mpr ⟨plain_of_parseNumber (parseNumber_of_writes writes), ih⟩

theorem plain_mnemonicOf (i : Instr) : mnemonicOf i ≠ [] ∧ ∀ c ∈ mnemonicOf i, Plain c := by
  cases i <;> exact ⟨by simp [mnemonicOf], by simp [mnemonicOf, Plain, isSeparator]⟩

/-! ## Lines -/

/-- Separators at the end of a line add no word. -/
theorem wordsFrom_blanks {tail : List Char} (blank : ∀ c ∈ tail, isSeparator c = true) : wordsFrom [] tail = [] := by
  induction tail with
  | nil => rfl
  | cons c tail ih =>
    rw [wordsFrom_blank (blank c List.mem_cons_self), ih fun d hd => blank d (List.mem_cons_of_mem c hd)]

theorem wordsFrom_word_blanks {word tail : List Char} (begun : word ≠ []) (blank : ∀ c ∈ tail, isSeparator c = true) :
    wordsFrom word tail = [word] := by
  cases tail with
  | nil => simp [wordsFrom, begun]
  | cons c tail =>
    rw [wordsFrom_separator (blank c List.mem_cons_self) begun,
      wordsFrom_blanks fun d hd => blank d (List.mem_cons_of_mem c hd)]

theorem wordsFrom_plain {word : List Char} (plain : ∀ c ∈ word, Plain c) (rest : List Char) :
    wordsFrom [] (word ++ rest) = wordsFrom word rest :=
  wordsFrom_append word (fun c hc => (plain c hc).1) [] rest

/-- Operands as R87 writes them fall into the words they are. -/
theorem wordsFrom_operandText {words : List (List Char)} {tail : List Char}
    (plain : ∀ word ∈ words, word ≠ [] ∧ ∀ c ∈ word, Plain c) (blank : ∀ c ∈ tail, isSeparator c = true) :
    wordsFrom [] (operandText words ++ tail) = words := by
  induction words using operandText.induct with
  | case1 => exact wordsFrom_blanks blank
  | case2 word =>
    obtain ⟨begun, chars⟩ := plain word List.mem_cons_self
    rw [operandText, List.cons_append, wordsFrom_blank rfl, wordsFrom_plain chars, wordsFrom_word_blanks begun blank]
  | case3 word next rest ih =>
    obtain ⟨begun, chars⟩ := plain word List.mem_cons_self
    rw [operandText, List.append_assoc, List.cons_append, wordsFrom_blank rfl, wordsFrom_plain chars, List.cons_append,
      wordsFrom_separator rfl begun, ih fun w hw => plain w (List.mem_cons_of_mem word hw)]

/-- A mnemonic is a word of its own: what follows it is nothing or begins with a blank. -/
theorem wordsFrom_mnemonic {mnemonic tail : List Char} {words : List (List Char)} (begun : mnemonic ≠ [])
    (plain : ∀ word ∈ words, word ≠ [] ∧ ∀ c ∈ word, Plain c) (blank : ∀ c ∈ tail, isSeparator c = true) :
    wordsFrom mnemonic (operandText words ++ tail) = mnemonic :: words := by
  have operands := wordsFrom_operandText plain blank
  cases words with
  | nil => exact wordsFrom_word_blanks begun blank
  | cons word rest =>
    obtain ⟨text, starts⟩ : ∃ text, operandText (word :: rest) = ' ' :: text := by cases rest <;> exact ⟨_, rfl⟩
    rw [starts, List.cons_append, wordsFrom_blank rfl] at operands
    rw [starts, List.cons_append, wordsFrom_separator rfl begun, operands]

/-- The characters of the operands' text are separators and the operands' own. -/
theorem mem_operandText {words : List (List Char)} {c : Char} (h : c ∈ operandText words) :
    isSeparator c = true ∨ ∃ word ∈ words, c ∈ word := by
  induction words using operandText.induct with
  | case1 => cases h
  | case2 word =>
    obtain rfl | inWord := List.mem_cons.mp h
    · exact .inl rfl
    · exact .inr ⟨word, List.mem_cons_self, inWord⟩
  | case3 word next rest ih =>
    obtain inFirst | inRest := List.mem_append.mp h
    · obtain rfl | inWord := List.mem_cons.mp inFirst
      · exact .inl rfl
      · exact .inr ⟨word, List.mem_cons_self, inWord⟩
    · obtain rfl | inText := List.mem_cons.mp inRest
      · exact .inl rfl
      · obtain sep | ⟨w, listed, inWord⟩ := ih inText
        · exact .inl sep
        · exact .inr ⟨w, List.mem_cons_of_mem word listed, inWord⟩

/-- A mnemonic with its operands is those words, when blanks at most stand between it and a comment (R87). -/
theorem lineWords_written {words : List (List Char)} {tail : List Char} (i : Instr)
    (plain : ∀ word ∈ words, word ≠ [] ∧ ∀ c ∈ word, Plain c)
    (blank : ∀ c ∈ dropComment tail, isSeparator c = true) :
    lineWords (mnemonicOf i ++ operandText words ++ tail) = mnemonicOf i :: words := by
  obtain ⟨begun, chars⟩ := plain_mnemonicOf i
  have noComment : ∀ c ∈ mnemonicOf i ++ operandText words, c ≠ ';' := by
    intro c hc
    obtain inMnemonic | inOperands := List.mem_append.mp hc
    · exact (chars c inMnemonic).2
    · obtain sep | ⟨word, listed, inWord⟩ := mem_operandText inOperands
      · rintro rfl
        cases sep
      · exact ((plain word listed).2 c inWord).2
  rw [lineWords, dropComment_append _ _ noComment, List.append_assoc, wordsFrom_plain chars]
  exact wordsFrom_mnemonic begun plain blank

end Sys2Proof.Machine
end

section
/-! Proofs of the statements about spec/30_encoding.md: the command word (R80 to R85), its acceptance
(R88) and its text (R87). -/

namespace Sys2Proof.Machine

variable {s t : State} {i : Instr}

/-! ## The command word -/

/-- Settles O1: the word of a command has the opcode, the zero bits and the operands that decoding asks for. -/
theorem decodeOfEncode : Obligations.DecodeOfEncode := fun i wf =>
  decode_eq_ok.mpr ⟨opcField_encode i, zeroBits_encode i, wf, withFields_encode i⟩

/-- Settles O2: a word that decodes has the opcode and the zero bits of the command's row, so that it is the word of the
command in its fields (`encode_withFields`), which is the one it decodes to. -/
theorem encodeOfDecode : Obligations.EncodeOfDecode := by
  intro w i h
  obtain ⟨row, zero, wf, fields⟩ := decode_eq_ok.mp h
  exact ⟨wf, fields ▸ encode_withFields row zero⟩

/-- Settles O3: decoding and selection both ask for the opcode and the zero bits of one row (`decode_eq_ok`,
`selectsRow_tableRow`), decoding for the bound as well; and no two rows have the same opcode. -/
theorem legalWordsAreTheTableRows : Obligations.LegalWordsAreTheTableRows := by
  refine ⟨fun w => ⟨?_, ?_⟩, fun w i h => ?_, fun w r₁ listed₁ r₂ listed₂ h₁ h₂ => ?_⟩
  · rintro ⟨i, h⟩
    obtain ⟨row, zero, wf, fields⟩ := decode_eq_ok.mp h
    refine ⟨⟨tableRow i, tableRow_mem i, selectsRow_tableRow.mpr ⟨row, zero⟩⟩, ?_⟩
    exact (withFields_wf row).mp (fields.symm ▸ wf)
  · rintro ⟨⟨r, listed, selects⟩, bound⟩
    obtain ⟨i, -, rfl⟩ := List.mem_map.mp listed
    obtain ⟨row, zero⟩ := selectsRow_tableRow.mp selects
    exact ⟨withFields i w, (decode_of_opcField row).mpr ⟨zero, (withFields_wf row).mpr bound, rfl⟩⟩
  · obtain ⟨row, zero, -, -⟩ := decode_eq_ok.mp h
    exact selectsRow_tableRow.mpr ⟨row, zero⟩
  · have oneEach : (tableRows.map fun row => opcField row.1).Nodup := by decide
    exact List.inj_on_of_nodup_map oneEach listed₁ listed₂
      ((opcField_of_selectsRow listed₁ h₁).symm.trans (opcField_of_selectsRow listed₂ h₂))

/-- Settles O6: the direction is one bit, so that appending it doubles the address and adds the bit. -/
theorem wireAddressIsTwiceAddressPlusDirection : Obligations.WireAddressIsTwiceAddressPlusDirection := by
  intro addr dir
  rw [wireAddr, BitVec.toNat_append, ← Nat.shiftLeft_add_eq_or_of_lt dir.isLt, Nat.shiftLeft_eq, pow_one, mul_comm]

/-! ## Acceptance -/

/-- Settles O8: the step takes the branch of an idle block with a word presented, and acceptance is what the statement
writes out (`accept_eq`). -/
theorem stepRunsDecodedCommand : Obligations.StepRunsDecodedCommand := by
  intro s w rest i noReset idle presented decoded
  rw [← accept_eq, step, if_neg (Bool.eq_false_iff.mp noReset), idle, presented]
  simp only [decoded]

/-- An ill-formed command does what an illegal word does (R84, R135): it is a `SCAN` above the bound. -/
theorem exec_of_not_wf (h : i.wf = false) (s : State) : exec i s = .next (illegalCommand s) := by
  cases i with
  | scan first => exact if_neg (Bool.eq_false_iff.mp h)
  | _ => cases h

/-- Settles O11: such a term is ill formed. -/
theorem scanAboveBoundIsIllegal : Obligations.ScanAboveBoundIsIllegal := by
  intro s first above
  have illFormed : (Instr.scan first).wf = false := decide_eq_false (BitVec.not_le.mpr above)
  rw [exec_of_not_wf illFormed, illegalCommand_eq]

/-- Every command answers a next state. -/
theorem exec_answers (i : Instr) (s : State) : ∃ t, exec i s = .next t := by
  cases wf : i.wf with
  | true => exact ⟨_, exec_eq_runCommand wf s⟩
  | false => exact ⟨_, exec_of_not_wf wf s⟩

/-- Settles O13: each branch of the step answers a next state, that of a legal word by `exec_answers`. -/
theorem stepNeverStops : Obligations.StepNeverStops := by
  intro s
  unfold step
  split
  · exact ⟨_, rfl⟩
  split
  · exact ⟨_, rfl⟩
  split
  · exact ⟨_, rfl⟩
  split
  · exact ⟨_, rfl⟩
  · exact exec_answers _ _

theorem BusOnly.inputsKept (h : BusOnly s t) : InputsKept s t := by
  rw [h]
  exact ⟨rfl, rfl, rfl, rfl, rfl, rfl, rfl, rfl⟩

/-- What the end of a command writes is its results, `CAUSE` and `SEQ`. -/
theorem InputsKept.finish (kept : InputsKept s t) (i : Instr) (xs : List Level) :
    InputsKept s (finish i xs t) := by
  cases i <;>
    simpa [InputsKept, Machine.finish, finishRead, finishAck, finishScan, finishReadReg, finishReadRegWord,
      complete] using kept

/-- Settles O9: the step goes on with the command, and a run of micro-operations writes the bus and, when it completes,
the results; neither touches the port, the operand latches or the environment's plan. -/
theorem busyBlockTakesNoWord : Obligations.BusyBlockTakesNoWord := by
  intro s t noReset busy ran
  cases seq : s.seq with
  | idle => exact absurd seq (busy_eq_true.mp busy)
  | running i k w xs =>
    rw [step_running noReset seq] at ran
    obtain rfl := Host.Outcome.next.inj ran
    obtain ⟨ys, u, bus, completed⟩ | ⟨n, ys, u, bus, held⟩ := runOps_cases i ((opsOf i).drop k) k w xs s
    · rw [completed]
      exact InputsKept.finish bus.inputsKept i ys
    · rw [held]
      exact bus.inputsKept

/-! ## Text -/

/-- Settles O5: a line that reads as a mnemonic and numbers gives what the mnemonic makes of the numbers
(`assembleLine_reads`): the word of the command they stand for, or the error of a wrong count or of a number past its
bound. -/
theorem assembledWordsAreLegal : Obligations.AssembledWordsAreLegal := by
  refine ⟨fun line w => ⟨fun h => ?_, ?_⟩, ?_, ?_, fun _ => assembleLine_noWord⟩
  · obtain ⟨i, ns, reads, taken⟩ := exists_reads_of_assembleLine h
    obtain ⟨j, same, wf, stands, rfl⟩ := exists_stands_of_takeOperands taken
    exact ⟨j, wf, lineSays_iff.mpr ⟨ns, same ▸ reads, stands⟩, rfl⟩
  · rintro ⟨i, wf, said, rfl⟩
    obtain ⟨ns, reads, stands⟩ := lineSays_iff.mp said
    rw [assembleLine_reads reads, takeOperands_of_stands wf stands]
    rfl
  · intro line m ns bs reads bounds
    obtain ⟨i, rfl⟩ := exists_mnemonicOf_of_operandBounds bounds
    rw [assembleLine_reads reads]
    constructor
    · rintro count ⟨k, n, b, number, bound, past⟩
      rw [takeOperands_outOfRange bounds count (not_within_of_past number bound past)]
      rfl
    · intro count given
      rw [takeOperands_operandCount bounds count given]
      rfl
  · intro line m words reads
    constructor
    · rintro noBounds
      refine assembleLine_unknown reads fun i same => ?_
      have known := operandBounds_mnemonicOf i
      rw [← same, noBounds] at known
      cases known
    · intro hasBounds bad
      obtain ⟨bs, bounds⟩ := Option.ne_none_iff_exists'.mp hasBounds
      obtain ⟨i, rfl⟩ := exists_mnemonicOf_of_operandBounds bounds
      exact assembleLine_notANumber reads bad

/-- Settles O54: each operand reads as its number (`parseNumbers_of_writes`), so that it is a word with no separator and
no comment in it, and a line of such words falls into them (`lineWords_written`). -/
theorem writtenLinesReadAsWritten : Obligations.WrittenLinesReadAsWritten := by
  refine ⟨fun i numbers words comment writes => ?_, fun comment => rfl⟩
  have read : parseNumbers words = some numbers := parseNumbers_of_writes writes
  have plain := plain_of_writes writes
  constructor
  · refine ⟨words, ?_, read⟩
    rw [← List.append_nil (mnemonicOf i ++ operandText words)]
    exact lineWords_written i plain (by simp [dropComment])
  · exact ⟨words, lineWords_written i plain (by simp [dropComment, isSeparator]), read⟩

end Sys2Proof.Machine
end

section
/-! SUPPORT. What stands in the micro-operation lists, and what a run of them puts on the bus, said once for the
statements about spec/41_protocol_engine.md: the samples' places in a list, what each micro-operation records, and how
the trace grows. -/

namespace Sys2Proof.Machine

variable {s t : State} {i : Instr} {op : MicroOp} {xs ys : List Level}

/-! ## What an attempt records -/

theorem linesAfter_append_write (tr : List Event) (d c : Level) : linesAfter (tr ++ [.wr d c]) = (d, c) :=
  linesAfter_of_getLast List.getLast?_concat

theorem linesAfter_append_sample (tr : List Event) (v : Level) : linesAfter (tr ++ [.sm v]) = linesAfter tr := by
  simp [linesAfter, writesOf]

theorem linesAfter_append_delay (tr : List Event) : linesAfter (tr ++ [.dl]) = linesAfter tr := by
  simp [linesAfter, writesOf]

/-- A micro-operation done from its beginning records one event, of its shape; if the lines were those last written they
still are; and a sample, if it took one, is kept (R51, R52, R66). -/
theorem attempt_done_records (h : attempt op false xs s = .done ys t) :
    ∃ ev, t.trace = s.trace ++ [ev] ∧ shapeOf [ev] = [op.shape] ∧ (LinesOk s → LinesOk t) ∧
      ys.length = xs.length + [op].count .s := by
  obtain ⟨waiting, -⟩ | ⟨-, ⟨d, rfl, -, rfl, rfl⟩ | ⟨d, rfl, rfl, rfl⟩ | ⟨rfl, rfl, rfl⟩ | ⟨e, rfl, rfl, rfl⟩ |
    ⟨rfl, rfl, rfl⟩⟩ := attempt_done h
  · cases waiting
  · exact ⟨_, rfl, rfl, fun _ => (linesAfter_append_write ..).symm, rfl⟩
  · exact ⟨_, rfl, rfl, fun _ => (linesAfter_append_write ..).symm, rfl⟩
  · exact ⟨_, rfl, rfl, fun lines => lines.trans (linesAfter_append_sample ..).symm, List.length_append⟩
  · exact ⟨_, rfl, rfl, fun _ => (linesAfter_append_write ..).symm, rfl⟩
  · exact ⟨_, rfl, rfl, fun lines => lines.trans (linesAfter_append_delay _).symm, rfl⟩

theorem attempt_held_traceGrows {w : Bool} (h : attempt op w xs s = .held t) : TraceGrows s t := by
  obtain ⟨-, -, rfl⟩ | ⟨-, d, -, -, rfl⟩ := attempt_held h
  · exact List.prefix_rfl
  · exact List.prefix_append ..

theorem attempt_done_traceGrows {w : Bool} (h : attempt op w xs s = .done ys t) : TraceGrows s t := by
  cases w with
  | true =>
    obtain ⟨-, -, -, rfl⟩ | ⟨begun, -⟩ := attempt_done h
    · exact List.prefix_rfl
    · cases begun
  | false =>
    obtain ⟨ev, trace, -⟩ := attempt_done_records h
    exact ⟨[ev], trace.symm⟩

/-- A run takes nothing back that is on the bus (R66). -/
theorem runOps_traceGrows (i : Instr) (ops : List MicroOp) (k : Nat) (w : Bool) (xs : List Level) (s : State) :
    TraceGrows s (runOps i ops k w xs s) :=
  runOps_rule (fun _ _ _ _ t => TraceGrows s t) (TraceGrows s)
    (fun _ _ xs t h => h.trans (finish_trace i xs t ▸ List.prefix_rfl))
    (fun _ _ _ _ _ _ t h ht => h.trans (l₃ := t.trace) (attempt_held_traceGrows ht))
    (fun _ _ _ _ _ _ _ _ h ht => h.trans (attempt_done_traceGrows ht))
    ops k w xs s List.prefix_rfl

/-- A run that begins with a line write has made it, whether it is held there or goes on. -/
theorem runOps_write_prefix (i : Instr) (d c : Level) (ops : List MicroOp) (k : Nat) (xs : List Level) (s : State) :
    s.trace ++ [.wr d c] <+: (runOps i (.w d c :: ops) k false xs s).trace := by
  rw [runOps]
  split
  next t held =>
    obtain ⟨waiting, -⟩ | ⟨-, d', same, -, rfl⟩ := attempt_held held
    · cases waiting
    · cases same
      exact List.prefix_rfl
  next ys t done =>
    have wrote : t.trace = s.trace ++ [.wr d c] := by
      obtain ⟨ev, trace, shape, -⟩ := attempt_done_records done
      rw [trace]
      cases ev <;> cases shape
      rfl
    exact wrote ▸ runOps_traceGrows i ops (k + 1) false ys t

/-- Completion writes no line. -/
theorem finish_lines (i : Instr) (xs : List Level) (s : State) :
    ((finish i xs s).sdaOut, (finish i xs s).sclOut) = (s.sdaOut, s.sclOut) := by
  cases i <;> rfl

/-! ## Where the samples stand in a list -/

/-- Each sample of a list stands directly after a line write that released both lines (R104, R105). -/
def SamplesFollowRelease (ops : List MicroOp) : Prop :=
  ∀ k, ops[k]? = some .s → (ops.take k).getLast? = some (.w true true)

theorem SamplesFollowRelease.append {a b : List MicroOp} (ha : SamplesFollowRelease a) (hb : SamplesFollowRelease b) :
    SamplesFollowRelease (a ++ b) := by
  intro k sample
  rw [List.getElem?_append] at sample
  split at sample
  next inFirst =>
    rw [List.take_append_of_le_length inFirst.le]
    exact ha k sample
  next =>
    rw [List.take_append, List.getLast?_append, hb _ sample]
    rfl

theorem samplesFollowRelease_of_notMem {ops : List MicroOp} (h : .s ∉ ops) : SamplesFollowRelease ops :=
  fun _ sample => absurd (List.mem_of_getElem? sample) h

theorem samplesFollowRelease_flatten {lists : List (List MicroOp)} (h : ∀ ops ∈ lists, SamplesFollowRelease ops) :
    SamplesFollowRelease lists.flatten := by
  induction lists with
  | nil => exact samplesFollowRelease_of_notMem List.not_mem_nil
  | cons ops lists ih =>
    obtain ⟨first, others⟩ := List.forall_mem_cons.mp h
    exact first.append (ih others)

theorem samplesFollowRelease_start : SamplesFollowRelease startOps := samplesFollowRelease_of_notMem (by decide)

theorem samplesFollowRelease_stop : SamplesFollowRelease stopOps := samplesFollowRelease_of_notMem (by decide)

theorem samplesFollowRelease_send (b : Byte) : SamplesFollowRelease (sendOps b) :=
  samplesFollowRelease_of_notMem (by simp [sendOps, sendBitOps])

theorem samplesFollowRelease_sendAck : SamplesFollowRelease sendAckOps := samplesFollowRelease_of_notMem (by decide)

theorem samplesFollowRelease_sendNack : SamplesFollowRelease sendNackOps := samplesFollowRelease_of_notMem (by decide)

theorem samplesFollowRelease_delay : SamplesFollowRelease [.delay] := samplesFollowRelease_of_notMem (by decide)

/-- Of the four micro-operations that `ack` and a turn of `recv` make only the third is a sample. -/
theorem samplesFollowRelease_sampleOnce {last : MicroOp} (h : last ≠ .s) :
    SamplesFollowRelease [.w true false, .w true true, .s, last] := by
  intro k sample
  match k with
  | 0 | 1 => cases sample
  | 2 => rfl
  | 3 => exact absurd (Option.some.inj sample) h
  | _ + 4 => cases sample

theorem samplesFollowRelease_ack (e : Byte) : SamplesFollowRelease (ackOps e) :=
  samplesFollowRelease_sampleOnce (by simp)

theorem samplesFollowRelease_recv : SamplesFollowRelease recvOps :=
  samplesFollowRelease_flatten fun _ turn => List.eq_of_mem_replicate turn ▸ samplesFollowRelease_sampleOnce (by simp)

theorem samplesFollowRelease_probe (c : Byte) : SamplesFollowRelease (probeOps c) :=
  samplesFollowRelease_start.append (samplesFollowRelease_send _) |>.append (samplesFollowRelease_ack 0)
    |>.append samplesFollowRelease_recv |>.append samplesFollowRelease_sendNack |>.append samplesFollowRelease_stop

theorem samplesFollowRelease_readOpening (addr : Addr7) (reg : Byte) :
    SamplesFollowRelease (readPhase1Ops addr reg ++ [.delay] ++ readPhase2Ops addr) :=
  samplesFollowRelease_start.append (samplesFollowRelease_send _) |>.append (samplesFollowRelease_ack _)
    |>.append (samplesFollowRelease_send _) |>.append (samplesFollowRelease_ack _) |>.append samplesFollowRelease_stop
    |>.append samplesFollowRelease_delay
    |>.append (samplesFollowRelease_start.append (samplesFollowRelease_send _) |>.append (samplesFollowRelease_ack _))

/-- "Every `S()` in this spec is made with `SDA_OUT = 1`" (R52), and directly after the clock has been released. -/
theorem samplesFollowRelease_opsOf (i : Instr) : SamplesFollowRelease (opsOf i) := by
  cases i with
  | start => exact samplesFollowRelease_start
  | stop => exact samplesFollowRelease_stop
  | send byte => exact samplesFollowRelease_send byte
  | read => exact samplesFollowRelease_recv
  | ack e => exact samplesFollowRelease_ack e
  | sendAck => exact samplesFollowRelease_sendAck
  | sendNack => exact samplesFollowRelease_sendNack
  | scan first =>
    refine samplesFollowRelease_flatten fun _ probe => ?_
    obtain ⟨c, -, rfl⟩ := List.mem_map.mp probe
    exact samplesFollowRelease_probe c
  | writeReg addr reg value =>
    exact samplesFollowRelease_start.append (samplesFollowRelease_send _) |>.append (samplesFollowRelease_ack _)
      |>.append (samplesFollowRelease_send _) |>.append (samplesFollowRelease_ack _)
      |>.append (samplesFollowRelease_send _) |>.append (samplesFollowRelease_ack _)
      |>.append (samplesFollowRelease_send _) |>.append (samplesFollowRelease_ack _)
      |>.append samplesFollowRelease_stop
  | readReg addr reg =>
    exact (samplesFollowRelease_readOpening addr reg).append samplesFollowRelease_recv
      |>.append samplesFollowRelease_sendNack |>.append samplesFollowRelease_stop
  | readRegWord addr reg =>
    exact (samplesFollowRelease_readOpening addr reg).append samplesFollowRelease_recv
      |>.append samplesFollowRelease_sendAck |>.append samplesFollowRelease_recv
      |>.append samplesFollowRelease_sendNack |>.append samplesFollowRelease_stop

/-! ## How a list begins and ends -/

/-- Each command's list begins with the write R109 lists for it. -/
theorem opsOf_eq_cons (i : Instr) : ∃ ops, opsOf i = .w (firstWriteOf i).1 (firstWriteOf i).2 :: ops := by
  cases i <;> exact ⟨_, rfl⟩

/-- Each command's list ends with a line write, and not at data low, clock high (R109). -/
theorem opsOf_last_shape (i : Instr) :
    ∃ d c, ((opsOf i).map MicroOp.shape).getLast? = some (.wr d c) ∧ (d, c) ≠ (false, true) := by
  have afterStop (ops : List MicroOp) : ((ops ++ stopOps).map MicroOp.shape).getLast? = some (.wr true true) := by
    simp [stopOps, MicroOp.shape]
  cases i with
  | scan first =>
    refine ⟨true, true, ?_, by simp⟩
    rw [opsOf, scanOps, scanCandidates, scanCount, List.range_succ, List.map_append, List.flatMap_append,
      List.map_singleton, List.flatMap_singleton, probeOps, ← List.append_assoc]
    exact afterStop _
  | writeReg | readReg | readRegWord => exact ⟨true, true, afterStop _, by simp⟩
  | _ => exact ⟨_, _, rfl, by simp⟩

end Sys2Proof.Machine
end

section
/-! Proofs of the statements about spec/41_protocol_engine.md: the first write and the events of each command (R109), and
the invariant. -/

namespace Sys2Proof.Machine

variable {s t : State} {i : Instr} {op : MicroOp} {xs ys : List Level}

/-! ## The invariant (R109, R52) -/

/-- What the trace of a consistent state says of the lines and the samples, and where the sequencer stands. -/
structure BusOk (s : State) : Prop where
  seq : SeqOk s
  lines : LinesOk s
  samples : SamplesOk s.trace

/-- If the last of some micro-operations writes the lines, its write is the last event of the trace. -/
def LastWritten (ops : List MicroOp) (tr : List Event) : Prop :=
  ∀ d c, (ops.map MicroOp.shape).getLast? = some (.wr d c) → tr.getLast? = some (.wr d c)

/-- What holds of a run of command `i` before each of its micro-operations: `ops` is what is left of its list from
position `k`, where it waits if `w` is set, the samples `xs` are counted, and the trace ends with the last write begun. -/
structure Underway (i : Instr) (ops : List MicroOp) (k : Nat) (w : Bool) (xs : List Level) (s : State) : Prop where
  rest : (opsOf i).drop k = ops
  counted : xs.length = samplesBefore i k
  latched : LatchesHold s i
  lines : LinesOk s
  samples : SamplesOk s.trace
  written : LastWritten ((opsOf i).take (k + w.toNat)) s.trace
  waits : w = true → ∃ d, (opsOf i)[k]? = some (.w d true)

theorem lastWritten_append {ops : List MicroOp} {tr : List Event} {ev : Event} (shape : shapeOf [ev] = [op.shape]) :
    LastWritten (ops ++ [op]) (tr ++ [ev]) := by
  intro d c last
  rw [List.map_append, List.map_singleton, List.getLast?_concat] at last
  rw [Option.some.inj last] at shape
  rw [List.getLast?_concat]
  cases ev <;> cases shape
  rfl

theorem samplesOk_append {tr : List Event} {ev : Event} (h : SamplesOk tr)
    (released : ∀ v, ev = .sm v → tr.getLast? = some (.wr true true)) : SamplesOk (tr ++ [ev]) := by
  intro n v sample
  obtain inside | rfl | outside := lt_trichotomy n tr.length
  · rw [List.getElem?_append_left inside] at sample
    obtain ⟨m, rfl, before⟩ := h n v sample
    exact ⟨m, rfl, by rwa [List.getElem?_append_left (by omega)]⟩
  · rw [List.getElem?_concat_length] at sample
    have last := released v (Option.some.inj sample)
    obtain ⟨front, rfl⟩ := List.getLast?_eq_some_iff.mp last
    exact ⟨front.length, List.length_append, by simp⟩
  · rw [List.getElem?_eq_none (by simpa using outside)] at sample
    cases sample

theorem BusOnly.latchesHold (h : BusOnly s t) (latched : LatchesHold s i) : LatchesHold t i := by
  rw [h]
  exact latched

theorem take_succ_of_getElem? {ops : List MicroOp} {k : Nat} (h : ops[k]? = some op) :
    ops.take (k + 1) = ops.take k ++ [op] := by
  rw [List.take_add_one, h, Option.toList_some]

theorem samplesBefore_succ {k : Nat} (h : (opsOf i)[k]? = some op) :
    samplesBefore i (k + 1) = samplesBefore i k + [op].count .s := by
  rw [samplesBefore, take_succ_of_getElem? h, List.count_append, samplesBefore]

section
variable {ops : List MicroOp} {k : Nat} {w : Bool}

theorem Underway.current (h : Underway i (op :: ops) k w xs s) : (opsOf i)[k]? = some op := by
  rw [← Nat.add_zero k, ← List.getElem?_drop, h.rest, List.getElem?_cons_zero]

theorem Underway.next (h : Underway i (op :: ops) k w xs s) : (opsOf i).drop (k + 1) = ops := by
  rw [← List.tail_drop, h.rest, List.tail_cons]

/-- A command that has come to its end leaves the sequencer idle, with the lines where its last write put them. -/
theorem Underway.busOk_finish (h : Underway i [] k w xs s) : BusOk (finish i xs s) where
  seq := by
    obtain ⟨d, c, last, legal⟩ := opsOf_last_shape i
    have atEnd : (opsOf i).length ≤ k := List.drop_eq_nil_iff.mp h.rest
    have wrote : s.trace.getLast? = some (.wr d c) := by
      apply h.written
      rwa [List.take_of_length_le (by omega)]
    have lines : ((finish i xs s).sdaOut, (finish i xs s).sclOut) = (d, c) :=
      (finish_lines i xs s).trans (h.lines.trans (linesAfter_of_getLast wrote))
    rw [SeqOk, finish_seq]
    exact lines ▸ legal
  lines := by
    rw [LinesOk, finish_lines, finish_trace]
    exact h.lines
  samples := finish_trace i xs s ▸ h.samples

/-- While a command waits, its last write is the one that released the clock. -/
theorem Underway.waiting (h : Underway i ops k true xs s) :
    ∃ d, (opsOf i)[k]? = some (.w d true) ∧ s.trace.getLast? = some (.wr d true) := by
  obtain ⟨d, at_k⟩ := h.waits rfl
  refine ⟨d, at_k, h.written d true ?_⟩
  rw [Bool.toNat_true, take_succ_of_getElem? at_k, List.map_append, List.map_singleton, List.getLast?_concat]
  rfl

/-- A command that is held stands at the write that released the clock. -/
theorem Underway.busOk_held (h : Underway i (op :: ops) k w xs s) (wf : i.wf = true)
    (ht : attempt op w xs s = .held t) : BusOk (t.setSeq (.running i k true xs)) := by
  have latched : LatchesHold t i := (attempt_held_busOnly ht).latchesHold h.latched
  obtain ⟨rfl, -, rfl⟩ | ⟨rfl, d, rfl, -, rfl⟩ := attempt_held ht
  · obtain ⟨d, at_k, wrote⟩ := h.waiting
    exact ⟨⟨wf, latched, rfl, h.counted, d, at_k, wrote⟩, h.lines, h.samples⟩
  · exact ⟨⟨wf, latched, rfl, h.counted, d, h.current, List.getLast?_concat⟩, (linesAfter_append_write ..).symm,
      samplesOk_append h.samples fun _ sample => by cases sample⟩

/-- A repeated poll that reads 1 records nothing: the write was recorded when the wait began. -/
theorem Underway.released (h : Underway i (op :: ops) k true xs s) : Underway i ops (k + 1) false xs s.addPoll where
  rest := h.next
  counted := by
    obtain ⟨d, at_k⟩ := h.waits rfl
    rw [h.counted, samplesBefore_succ at_k]
    rfl
  latched := h.latched
  lines := h.lines
  samples := h.samples
  written := h.written
  waits := nofun

/-- A micro-operation done from its beginning records its event; a sample follows the write before it in the list. -/
theorem Underway.recorded (h : Underway i (op :: ops) k false xs s) (ht : attempt op false xs s = .done ys t) :
    Underway i ops (k + 1) false ys t := by
  obtain ⟨ev, trace, shape, lines, counted⟩ := attempt_done_records ht
  have afterRelease : ∀ v, ev = .sm v → s.trace.getLast? = some (.wr true true) := by
    rintro v rfl
    obtain rfl : op = .s := by cases op <;> cases shape; rfl
    have before : ((opsOf i).take k).getLast? = some (.w true true) := samplesFollowRelease_opsOf i k h.current
    apply h.written
    rw [Bool.toNat_false, Nat.add_zero, List.getLast?_map, before]
    rfl
  exact {
    rest := h.next
    counted := by rw [counted, h.counted, samplesBefore_succ h.current]
    latched := (attempt_done_busOnly ht).latchesHold h.latched
    lines := lines h.lines
    samples := trace ▸ samplesOk_append h.samples afterRelease
    written := by
      rw [Bool.toNat_false, Nat.add_zero, take_succ_of_getElem? h.current, trace]
      exact lastWritten_append shape
    waits := nofun }

end

theorem runOps_busOk {ops : List MicroOp} {k : Nat} {w : Bool} (wf : i.wf = true) (h : Underway i ops k w xs s) :
    BusOk (runOps i ops k w xs s) :=
  runOps_rule (Underway i) BusOk
    (fun _ _ _ _ h => h.busOk_finish)
    (fun _ _ _ _ _ _ _ h ht => h.busOk_held wf ht)
    (fun _ _ _ w _ _ _ _ h ht => by
      cases w with
      | true =>
        obtain ⟨-, -, rfl, rfl⟩ | ⟨begun, -⟩ := attempt_done ht
        · exact h.released
        · cases begun
      | false => exact h.recorded ht)
    ops k w xs s h

/-- A command begins with nothing recorded, sampled or waited for. -/
theorem BusOk.begin (h : BusOk s) (latched : LatchesHold s i) : Underway i (opsOf i) 0 false [] s where
  rest := rfl
  counted := rfl
  latched := latched
  lines := h.lines
  samples := h.samples
  written := nofun
  waits := nofun

/-- A command in progress between steps stands where its run can go on. -/
theorem BusOk.goOn {k : Nat} {w : Bool} (h : BusOk s) (seq : s.seq = .running i k w xs) :
    i.wf = true ∧ Underway i ((opsOf i).drop k) k w xs s := by
  have seqOk := h.seq
  rw [SeqOk, seq] at seqOk
  obtain ⟨wf, latched, rfl, counted, d, at_k, wrote⟩ := seqOk
  exact ⟨wf, {
    rest := rfl
    counted := counted
    latched := latched
    lines := h.lines
    samples := h.samples
    written := fun d' c last => by
      rw [Bool.toNat_true, take_succ_of_getElem? at_k, List.map_append, List.map_singleton, List.getLast?_concat] at last
      cases last
      exact wrote
    waits := fun _ => ⟨d, at_k⟩ }⟩

theorem step_busOk (ht : step s = .next t) (h : BusOk s) : BusOk t := by
  obtain ⟨-, rfl⟩ | ⟨-, ⟨i, k, w, xs, seq, rfl⟩ | ⟨seq, ⟨-, rfl⟩ | ⟨word, rest, e, -, -, rfl⟩ |
    ⟨word, rest, i, -, decoded, run⟩⟩⟩ := step_cases ht
  · exact ⟨fun h => (by cases h), rfl, fun _ _ h => (by cases h)⟩
  · obtain ⟨wf, underway⟩ := h.goOn seq
    exact runOps_busOk wf underway
  · exact h
  · have seqOk := h.seq
    rw [SeqOk, seq] at seqOk
    exact ⟨seqOk, h.lines, h.samples⟩
  · obtain ⟨wf, rfl⟩ := encodeOfDecode word i decoded
    rw [exec_eq_runCommand wf] at run
    obtain rfl := Host.Outcome.next.inj run
    have accepted : BusOk (accept (encode i) rest s) := by
      have seqOk := h.seq
      rw [SeqOk, seq] at seqOk
      exact ⟨by rw [SeqOk, accept_eq, seq]; exact seqOk, h.lines, h.samples⟩
    exact runOps_busOk wf (accepted.begin ⟨rfl, rfl, rfl, rfl⟩)

/-! ## The count (R31) -/

/-- The count a completed `SCAN` stores is that of at most eight responders; no other command stores one. -/
theorem finish_scanOk (i : Instr) (xs : List Level) (h : ScanOk s) : ScanOk (finish i xs s) := by
  cases i with
  | scan first =>
    change (BitVec.ofNat 4 (responders first xs).length).toNat ≤ 8
    rw [BitVec.toNat_ofNat]
    exact (Nat.mod_le ..).trans (responders_length_le first xs)
  | _ => exact h

theorem BusOnly.scanOk (bus : BusOnly s t) (h : ScanOk s) : ScanOk t := by
  rw [bus]
  exact h

theorem runOps_scanOk (i : Instr) (ops : List MicroOp) (k : Nat) (w : Bool) (xs : List Level) (s : State)
    (h : ScanOk s) : ScanOk (runOps i ops k w xs s) := by
  obtain ⟨ys, u, bus, completed⟩ | ⟨n, ys, u, bus, held⟩ := runOps_cases i ops k w xs s
  · rw [completed]
    exact finish_scanOk i ys (bus.scanOk h)
  · rw [held]
    exact bus.scanOk h

theorem step_scanOk (ht : step s = .next t) (h : ScanOk s) : ScanOk t := by
  obtain ⟨-, rfl⟩ | ⟨-, ⟨i, k, w, xs, -, rfl⟩ | ⟨-, ⟨-, rfl⟩ | ⟨word, rest, e, -, -, rfl⟩ |
    ⟨word, rest, i, -, -, run⟩⟩⟩ := step_cases ht
  · exact Nat.zero_le 8
  · exact runOps_scanOk i _ k w xs s h
  · exact h
  · exact h
  · obtain ⟨-, rfl⟩ | ⟨-, rfl⟩ := exec_cases run
    · exact runOps_scanOk i _ 0 false [] _ h
    · exact h

/-- Settles O39: the error state (`step_errOk`) and the count (`step_scanOk`) are kept by every write of theirs; the
sequencer, the lines and the samples together, as every micro-operation of a run keeps `Underway`. -/
theorem stepKeepsConsistent : Obligations.StepKeepsConsistent := by
  intro s t h ht
  obtain ⟨seq, lines, samples⟩ : BusOk t := step_busOk ht ⟨h.seq, h.lines, h.samples⟩
  exact ⟨step_errOk ht h.err, step_scanOk ht h.scan, seq, lines, samples⟩

/-! ## The first write (R109, R166) -/

/-- A well-formed command, whether it completes or is held, has begun with the write listed for it. -/
theorem exec_first_write (wf : i.wf = true) (h : exec i s = .next t) :
    (writesOf (addedTrace s t)).head? = some (firstWriteOf i) := by
  rw [exec_eq_runCommand wf] at h
  obtain rfl := Host.Outcome.next.inj h
  obtain ⟨ops, list⟩ := opsOf_eq_cons i
  obtain ⟨later, trace⟩ := runOps_write_prefix i (firstWriteOf i).1 (firstWriteOf i).2 ops 0 [] s
  rw [addedTrace, runCommand, list, ← trace, List.append_assoc, List.drop_left]
  rfl

theorem bothChange_iff {p q : Level × Level} : bothChange p q = true ↔ p = (!q.1, !q.2) := by
  rw [bothChange, Bool.and_eq_true, bne_iff_ne, bne_iff_ne, ← Bool.eq_not, ← Bool.eq_not, Prod.ext_iff]

/-- Settles O42: the first write is that of the command's list (`exec_first_write`), and a write changes both lines when
they stand at its complement: `11` from `00`, `00` from `11`, and `10` only from `01`, where no command leaves them. -/
theorem firstWriteOfEachCommand : Obligations.FirstWriteOfEachCommand := by
  refine ⟨fun i s t => exec_first_write, fun i d c primitive legal => ?_⟩
  rw [bothChange_iff]
  cases i with
  | start => simp [firstWriteOf]
  | stop | sendAck => simp [firstWriteOf]
  | read | ack | sendNack => simpa [firstWriteOf] using legal
  | send byte =>
    have own : (∃ b, Instr.send byte = .send b ∧ b.getLsbD 7 = false) ↔ byte.getLsbD 7 = false := by simp
    rw [own, firstWriteOf]
    cases byte.getLsbD 7 with
    | false => simp
    | true => simpa using legal
  | _ => cases primitive

/-! ## How many events (R109, R128) -/

/-- The line writes, samples and delays of a trace. -/
def tally (tr : List Event) : Nat × Nat × Nat := ((writesOf tr).length, (samplesOf tr).length, delaysOf tr)

theorem tally_append (a b : List Event) : tally (a ++ b) = tally a + tally b := by
  simp [tally, writesOf, samplesOf, delaysOf]

/-- The sampled values count for nothing. -/
theorem tally_shapeOf (tr : List Event) : tally (shapeOf tr) = tally tr := by
  induction tr with
  | nil => rfl
  | cons ev tr ih =>
    rw [← List.singleton_append, shapeOf_append, tally_append, tally_append, ih]
    cases ev <;> rfl

/-- The events that a list of micro-operations records, counted. -/
def opsTally (ops : List MicroOp) : Nat × Nat × Nat := tally (ops.map MicroOp.shape)

@[simp] theorem opsTally_append (a b : List MicroOp) : opsTally (a ++ b) = opsTally a + opsTally b := by
  rw [opsTally, List.map_append, tally_append, opsTally, opsTally]

@[simp] theorem opsTally_start : opsTally startOps = (3, 0, 0) := rfl
@[simp] theorem opsTally_stop : opsTally stopOps = (3, 0, 0) := rfl
@[simp] theorem opsTally_send (b : Byte) : opsTally (sendOps b) = (24, 0, 0) := rfl
@[simp] theorem opsTally_recv : opsTally recvOps = (24, 8, 0) := rfl
@[simp] theorem opsTally_ack (e : Byte) : opsTally (ackOps e) = (3, 1, 0) := rfl
@[simp] theorem opsTally_sendAck : opsTally sendAckOps = (3, 0, 0) := rfl
@[simp] theorem opsTally_sendNack : opsTally sendNackOps = (4, 0, 0) := rfl
@[simp] theorem opsTally_delay (ops : List MicroOp) : opsTally (.delay :: ops) = (0, 0, 1) + opsTally ops :=
  opsTally_append [.delay] ops
@[simp] theorem opsTally_probe (c : Byte) : opsTally (probeOps c) = (61, 9, 0) := by
  simp [probeOps]

theorem opsTally_probes (cs : List Byte) : opsTally (cs.flatMap probeOps) = cs.length • (61, 9, 0) := by
  induction cs with
  | nil => rfl
  | cons c cs ih =>
    rw [List.flatMap_cons, opsTally_append, opsTally_probe, ih, List.length_cons, succ_nsmul']

/-- A command's list records as many events as R109 and R128 count. -/
theorem opsTally_opsOf (i : Instr) : opsTally (opsOf i) = eventCounts i := by
  cases i with
  | scan first => simp [opsOf, scanOps, opsTally_probes, scanCandidates, scanCount, eventCounts]
  | _ => simp [opsOf, eventCounts, writeRegOps, readRegOps, readRegWordOps, readPhase1Ops, readPhase2Ops]

/-- Settles O44: the events counted are those of the trace's shape, which is that of the command's list. -/
theorem eventCountsOfEachCommand : Obligations.EventCountsOfEachCommand := by
  intro i s t wf run idle
  calc tally (addedTrace s t)
    _ = tally (shapeOf (addedTrace s t)) := (tally_shapeOf _).symm
    _ = opsTally (opsOf i) := by rw [shapeOf_addedTrace wf run idle, opsTally]
    _ = eventCounts i := opsTally_opsOf i

end Sys2Proof.Machine
end

section
/-! SUPPORT. The line rule of a list of micro-operations (R39, R127): the line pairs that a list writes, whether one of
them changes both lines, and where data moves under a high clock; for each procedure, and for one list after another. -/

namespace Sys2Proof.Machine

variable {s t : State} {i : Instr}

/-! ## What a run writes of its list -/

theorem writesOf_append (a b : List Event) : writesOf (a ++ b) = writesOf a ++ writesOf b := List.filterMap_append

/-- A trace's shape leaves only its sampled values open. -/
theorem writesOf_shapeOf (tr : List Event) : writesOf (shapeOf tr) = writesOf tr := by
  rw [writesOf, shapeOf, List.filterMap_map, writesOf]
  congr 1
  funext ev
  cases ev <;> rfl

/-- The line pairs that a list of micro-operations writes. -/
def opsWrites (ops : List MicroOp) : List (Level × Level) := writesOf (ops.map MicroOp.shape)

theorem opsWrites_append (a b : List MicroOp) : opsWrites (a ++ b) = opsWrites a ++ opsWrites b := by
  rw [opsWrites, List.map_append, writesOf_append, opsWrites, opsWrites]

theorem opsWrites_cons (op : MicroOp) (ops : List MicroOp) : opsWrites (op :: ops) = opsWrites [op] ++ opsWrites ops :=
  opsWrites_append [op] ops

/-- What a run adds is the event of its first micro-operation and what the rest of the run adds. -/
theorem addedTrace_of_recorded {r : State} {ev : Event} (recorded : t.trace = s.trace ++ [ev])
    (grows : TraceGrows t r) : addedTrace s r = [ev] ++ addedTrace t r := by
  obtain ⟨later, trace⟩ := grows
  simp [addedTrace, ← trace, recorded]

/-- A list run from its beginning, to completion or to a hold, has written as much of the list's line pairs as it came
to, and nothing else. -/
theorem runOps_writes_prefix (i : Instr) (ops : List MicroOp) (k : Nat) (xs : List Level) (s : State) :
    writesOf (addedTrace s (runOps i ops k false xs s)) <+: opsWrites ops := by
  induction ops generalizing k xs s with
  | nil =>
    rw [runOps, addedTrace, finish_trace, List.drop_length]
    exact List.nil_prefix
  | cons op ops ih =>
    rw [runOps, opsWrites_cons]
    split
    next t held =>
      obtain ⟨begun, -⟩ | ⟨-, d, rfl, -, rfl⟩ := attempt_held held
      · cases begun
      · have added : addedTrace s ((s.setLines d true).addPoll.setSeq (.running i k true xs)) = [.wr d true] :=
          List.drop_left
        rw [added]
        exact List.prefix_append ..
    next ys t done =>
      obtain ⟨ev, recorded, shape, -⟩ := attempt_done_records done
      rw [addedTrace_of_recorded recorded (runOps_traceGrows i ops (k + 1) false ys t), writesOf_append,
        ← writesOf_shapeOf [ev], shape]
      exact (List.prefix_append_right_inj _).mpr (ih (k + 1) ys t)

/-- A completed command has written the line pairs of its whole list. -/
theorem writesOf_addedTrace (wf : i.wf = true) (h : exec i s = .next t) (idle : t.busy = false) :
    writesOf (addedTrace s t) = opsWrites (opsOf i) := by
  rw [← writesOf_shapeOf, shapeOf_addedTrace wf h idle, opsWrites]

/-! ## Line pairs one after another -/

theorem someWriteChangesBoth_append (p : Level × Level) (a b : List (Level × Level)) :
    someWriteChangesBoth p (a ++ b) = (someWriteChangesBoth p a || someWriteChangesBoth (a.getLastD p) b) := by
  induction a generalizing p with
  | nil => rfl
  | cons q a ih =>
    rw [List.cons_append, someWriteChangesBoth, ih, someWriteChangesBoth, List.getLastD_cons, Bool.or_assoc]

theorem dataMovesAt_append (p : Level × Level) (n : Nat) (a b : List (Level × Level)) :
    dataMovesAt p n (a ++ b) = dataMovesAt p n a ++ dataMovesAt (a.getLastD p) (n + a.length) b := by
  induction a generalizing p n with
  | nil => rfl
  | cons q a ih =>
    rw [List.cons_append, dataMovesAt, ih, dataMovesAt, List.getLastD_cons, List.length_cons, Nat.add_right_comm]
    split <;> rfl

/-- Counting from a later position only moves the positions. -/
theorem dataMovesAt_eq_map (p : Level × Level) (n : Nat) (l : List (Level × Level)) :
    dataMovesAt p n l = (dataMovesAt p 0 l).map (n + ·) := by
  induction l generalizing p n with
  | nil => rfl
  | cons q l ih =>
    have later : dataMovesAt q (n + 1) l = (dataMovesAt q (0 + 1) l).map (n + ·) := by
      rw [ih q (n + 1), ih q (0 + 1), List.map_map]
      simp only [Function.comp_def, Nat.add_assoc, Nat.zero_add]
    rw [dataMovesAt, dataMovesAt, later]
    split <;> rfl

/-! ## The line rule -/

/-- With the lines at `p` the list never changes both lines in one write; it makes `n` writes, data moves under a high
clock exactly at the writes `moves`, counted from 0, and the lines end at `q`. -/
structure KeepsLineRule (p : Level × Level) (ops : List MicroOp) (q : Level × Level) (n : Nat) (moves : List Nat) :
    Prop where
  single : someWriteChangesBoth p (opsWrites ops) = false
  ends : (opsWrites ops).getLastD p = q
  length : (opsWrites ops).length = n
  moves : dataMovesAt p 0 (opsWrites ops) = moves

theorem KeepsLineRule.append {p q r : Level × Level} {a b : List MicroOp} {m n : Nat} {ms ns : List Nat}
    (ha : KeepsLineRule p a q m ms) (hb : KeepsLineRule q b r n ns) :
    KeepsLineRule p (a ++ b) r (m + n) (ms ++ ns.map (m + ·)) where
  single := by rw [opsWrites_append, someWriteChangesBoth_append, ha.single, ha.ends, hb.single, Bool.false_or]
  ends := by
    rw [opsWrites_append, ← hb.ends, ← ha.ends]
    simp [List.getLastD_eq_getLast?, List.getLast?_append]
  length := by rw [opsWrites_append, List.length_append, ha.length, hb.length]
  moves := by
    rw [opsWrites_append, dataMovesAt_append, dataMovesAt_eq_map _ (0 + _), ha.moves, ha.ends, ha.length, hb.moves,
      Nat.zero_add]

/-- A list with no write in it, such as the delay, leaves the lines where they are. -/
theorem keepsLineRule_of_no_write {ops : List MicroOp} (h : opsWrites ops = []) (p : Level × Level) :
    KeepsLineRule p ops p 0 [] := by
  constructor <;> rw [h] <;> rfl

/-- `11 01 00` from data released: data falls under the high clock at the second write (R101). -/
theorem keepsLineRule_start (c : Level) : KeepsLineRule (true, c) startOps (false, false) 3 [1] := by
  cases c <;> exact ⟨rfl, rfl, rfl, rfl⟩

/-- `00 01 11` from a low clock: data rises under the high clock at the third write (R102). -/
theorem keepsLineRule_stop (d : Level) : KeepsLineRule (d, false) stopOps (true, true) 3 [2] := by
  cases d <;> exact ⟨rfl, rfl, rfl, rfl⟩

/-- Each data bit is set up under a low clock and held while the clock is high (R103). -/
theorem keepsLineRule_sendBit (d b : Level) : KeepsLineRule (d, false) (sendBitOps b) (b, false) 3 [] := by
  cases d <;> cases b <;> exact ⟨rfl, rfl, rfl, rfl⟩

theorem keepsLineRule_send (d : Level) (b : Byte) :
    KeepsLineRule (d, false) (sendOps b) (b.getLsbD 0, false) 24 [] :=
  have bit := keepsLineRule_sendBit
  (bit d _).append <| (bit _ _).append <| (bit _ _).append <| (bit _ _).append <| (bit _ _).append <|
    (bit _ _).append <| (bit _ _).append (bit _ _)

theorem keepsLineRule_recv (d : Level) : KeepsLineRule (d, false) recvOps (true, false) 24 [] := by
  cases d <;> exact ⟨rfl, rfl, rfl, rfl⟩

theorem keepsLineRule_ack (d : Level) (e : Byte) : KeepsLineRule (d, false) (ackOps e) (true, false) 3 [] := by
  cases d <;> exact ⟨rfl, rfl, rfl, rfl⟩

theorem keepsLineRule_sendAck (d : Level) : KeepsLineRule (d, false) sendAckOps (false, false) 3 [] := by
  cases d <;> exact ⟨rfl, rfl, rfl, rfl⟩

theorem keepsLineRule_sendNack (d : Level) : KeepsLineRule (d, false) sendNackOps (false, false) 4 [] := by
  cases d <;> exact ⟨rfl, rfl, rfl, rfl⟩

end Sys2Proof.Machine
end

section
/-! Proofs of the statements about spec/42_register_transactions.md. -/

namespace Sys2Proof.Machine

variable {s t u : State} {i : Instr}

/-! ## The line rule inside a transaction (R127) -/

/-- The probe of one candidate moves data under a high clock at its `start` and at its `stop` (R120). -/
theorem keepsLineRule_probe (l : Level) (c : Byte) : KeepsLineRule (true, l) (probeOps c) (true, true) 61 [1, 60] :=
  (keepsLineRule_start l).append (keepsLineRule_send _ _) |>.append (keepsLineRule_ack _ _)
    |>.append (keepsLineRule_recv _) |>.append (keepsLineRule_sendNack _) |>.append (keepsLineRule_stop _)

/-- A frame that writes one register address (R122, R123). -/
theorem keepsLineRule_readPhase1 (l : Level) (addr : Addr7) (reg : Byte) :
    KeepsLineRule (true, l) (readPhase1Ops addr reg) (true, true) 60 [1, 59] :=
  (keepsLineRule_start l).append (keepsLineRule_send _ _) |>.append (keepsLineRule_ack _ _)
    |>.append (keepsLineRule_send _ _) |>.append (keepsLineRule_ack _ _) |>.append (keepsLineRule_stop _)

/-- The first frame of the two reads, the delay, and the second frame as far as its `ack` (R122, R123). -/
theorem keepsLineRule_readOpening (l : Level) (addr : Addr7) (reg : Byte) :
    KeepsLineRule (true, l) (readPhase1Ops addr reg ++ [.delay] ++ readPhase2Ops addr) (true, false) 90 [1, 59, 61] :=
  (keepsLineRule_readPhase1 l addr reg).append (keepsLineRule_of_no_write rfl _)
    |>.append ((keepsLineRule_start _).append (keepsLineRule_send _ _) |>.append (keepsLineRule_ack _ _))

/-- Probes one after another: each begins where the one before has released both lines. -/
theorem keepsLineRule_probes (l : Level) (f : Nat → Byte) (n : Nat) :
    ∃ l', KeepsLineRule (true, l) (((List.range n).map f).flatMap probeOps) (true, l') (61 * n)
      ((List.range n).flatMap fun k => [61 * k + 1, 61 * k + 60]) := by
  induction n with
  | zero => exact ⟨l, keepsLineRule_of_no_write rfl _⟩
  | succ n ih =>
    obtain ⟨l', before⟩ := ih
    refine ⟨true, ?_⟩
    simp only [List.range_succ, List.map_append, List.flatMap_append, List.map_singleton, List.flatMap_singleton]
    exact before.append (keepsLineRule_probe l' (f n))

/-- A transaction begun with data released keeps the line rule, with data moving at its framing writes alone. -/
theorem keepsLineRule_opsOf (transaction : isTransaction i = true) (l : Level) :
    ∃ q n, KeepsLineRule (true, l) (opsOf i) q n (framingWrites i) := by
  cases i with
  | scan first =>
    obtain ⟨l', probes⟩ := keepsLineRule_probes l (scanCandidate first) 8
    exact ⟨_, _, probes⟩
  | writeReg addr reg value =>
    exact ⟨_, _, (keepsLineRule_start l).append (keepsLineRule_send _ _) |>.append (keepsLineRule_ack _ _)
      |>.append (keepsLineRule_send _ _) |>.append (keepsLineRule_ack _ _)
      |>.append (keepsLineRule_send _ _) |>.append (keepsLineRule_ack _ _)
      |>.append (keepsLineRule_send _ _) |>.append (keepsLineRule_ack _ _) |>.append (keepsLineRule_stop _)⟩
  | readReg addr reg =>
    exact ⟨_, _, (keepsLineRule_readOpening l addr reg).append (keepsLineRule_recv _)
      |>.append (keepsLineRule_sendNack _) |>.append (keepsLineRule_stop _)⟩
  | readRegWord addr reg =>
    exact ⟨_, _, (keepsLineRule_readOpening l addr reg).append (keepsLineRule_recv _)
      |>.append (keepsLineRule_sendAck _) |>.append (keepsLineRule_recv _)
      |>.append (keepsLineRule_sendNack _) |>.append (keepsLineRule_stop _)⟩
  | _ => cases transaction

/-- Settles O41: what was written is the list's own writes as far as the run came (`runOps_writes_prefix`), of which
none changes both lines; once the command has completed it is all of them. -/
theorem transactionsKeepTheLineRule : Obligations.TransactionsKeepTheLineRule := by
  intro i s t transaction wf letGo run
  obtain ⟨q, n, rule⟩ := keepsLineRule_opsOf transaction s.sclOut
  rw [letGo]
  constructor
  · have ran : runCommand i s = t := Host.Outcome.next.inj ((exec_eq_runCommand wf s).symm.trans run)
    obtain ⟨later, parts⟩ := runOps_writes_prefix i (opsOf i) 0 [] s
    have single := rule.single
    rw [← parts, someWriteChangesBoth_append, Bool.or_eq_false_iff] at single
    exact ran ▸ single.1
  · intro idle
    rw [writesOf_addedTrace wf run idle, rule.moves]

/-! ## What a scan leaves alone (R120) -/

/-- The Transaction Error State is unchanged or clear. -/
abbrev ErrorKeptOrClear (s t : State) : Prop := ErrorKept s t ∨ (t.err = false ∧ t.errmsg = 0)

theorem ErrorKeptOrClear.kept (h : ErrorKeptOrClear s t) (kept : ErrorKept t u) : ErrorKeptOrClear s u :=
  h.imp (fun same => same.trans kept) fun clear => ⟨kept.1.trans clear.1, kept.2.trans clear.2⟩

/-- A list whose `ack`s carry no description can only clear the error state (R105). -/
theorem runOps_errorKeptOrClear (i : Instr) (ops : List MicroOp) (k : Nat) (w : Bool) (xs : List Level) (s : State)
    (bare : ∀ e, .ackEnd e ∈ ops → e = 0) : ErrorKeptOrClear s (runOps i ops k w xs s) :=
  runOps_rule (fun ops _ _ _ t => (∀ e, .ackEnd e ∈ ops → e = 0) ∧ ErrorKeptOrClear s t) (ErrorKeptOrClear s)
    (fun _ _ xs t h => h.2.kept (finish_errorKept i xs t))
    (fun _ _ _ _ _ _ t h ht => h.2.kept (u := t) (attempt_held_errorKept ht))
    (fun op _ _ _ _ _ _ _ h ht => by
      obtain ⟨bare, before⟩ := h
      refine ⟨fun e he => bare e (List.mem_cons_of_mem op he), ?_⟩
      obtain kept | ⟨e, v, rfl, err, errmsg⟩ := attempt_done_error ht
      · exact before.kept kept
      · obtain rfl : e = 0 := bare e List.mem_cons_self
        exact .inr ⟨by simp [err, errAfterAck], by simp [errmsg, errmsgAfterAck]⟩)
    ops k w xs s ⟨bare, .inl ⟨rfl, rfl⟩⟩

/-- Every `ack` of a scan is made with no description (R120). -/
theorem eq_zero_of_ackEnd_mem_scanOps {first e : Byte} (h : .ackEnd e ∈ scanOps first) : e = 0 := by
  obtain ⟨c, -, inProbe⟩ := List.mem_flatMap.mp h
  simpa [probeOps, ackOps, startOps, stopOps, sendOps, sendBitOps, recvOps, recvBitOps, sendNackOps] using inProbe

/-- Settles O31: up to the end of the run only the bus procedures have written, and its end writes the list, its count
and `CAUSE` of the results (`runOps_cases`); the error state is written by `ack`s with no description. -/
theorem scanFrame : Obligations.ScanFrame := by
  intro s t first legal run
  have wf : (Instr.scan first).wf = true := decide_eq_true legal
  rw [exec_eq_runCommand wf, runCommand] at run
  obtain rfl := Host.Outcome.next.inj run
  have trace := runOps_traceGrows (.scan first) (scanOps first) 0 false [] s
  have error := runOps_errorKeptOrClear (.scan first) (scanOps first) 0 false [] s
    fun _ => eq_zero_of_ackEnd_mem_scanOps
  rw [opsOf]
  obtain ⟨ys, u, bus, completed⟩ | ⟨n, ys, u, bus, held⟩ :=
    runOps_cases (.scan first) (scanOps first) 0 false [] s
  · obtain ⟨ackr, rxd0, rxd1, -⟩ := bus.resultsKept
    rw [completed] at trace error ⊢
    refine ⟨bus.inputsKept.finish _ _, trace, ackr, rxd0, rxd1, fun busy => ?_, error⟩
    rw [finish_busy] at busy
    cases busy
  · obtain ⟨ackr, rxd0, rxd1, list⟩ := bus.resultsKept
    rw [held] at trace error ⊢
    exact ⟨bus.inputsKept, trace, ackr, rxd0, rxd1, fun _ => ⟨list, bus.cause⟩, error⟩

/-! ## Candidates (R120, R130) -/

/-- Settles O7: the last candidate of the largest start is `0xF1 + 14 = 0xFF`, so no sum leaves eight bits. -/
theorem scanCandidatesDoNotWrap : Obligations.ScanCandidatesDoNotWrap := by
  intro first k legal inside
  have bound : first.toNat ≤ 241 := BitVec.le_def.mp legal
  rw [scanCandidate, scanStep, BitVec.toNat_add, BitVec.toNat_ofNat]
  omega

end Sys2Proof.Machine
end

section
/-! Proofs of the statements about spec/43_arithmetic_control_system.md: the two steps of R135 agree. -/

namespace Sys2Proof.Machine

variable {s t : State} {i : Instr} {op : MicroOp} {k : Nat} {w : Bool} {xs ys : List Level}

/-! ## A micro-operation does not read the sequencer's position -/

/-- The outcome of an attempt with the sequencer moved. -/
def Progress.setSeq (q : Seq) : Progress → Progress
  | .done ys t => .done ys (t.setSeq q)
  | .held t => .held (t.setSeq q)

theorem pollClock_setSeq (q : Seq) (xs : List Level) (s : State) :
    pollClock xs (s.setSeq q) = (pollClock xs s).setSeq q := by
  cases level : s.sclLevel with
  | true => rw [pollClock_high level, pollClock_high (s := s.setSeq q) level]; rfl
  | false => rw [pollClock_low level, pollClock_low (s := s.setSeq q) level]; rfl

theorem attempt_setSeq (q : Seq) (op : MicroOp) (w : Bool) (xs : List Level) (s : State) :
    attempt op w xs (s.setSeq q) = (attempt op w xs s).setSeq q := by
  cases w with
  | true => exact pollClock_setSeq q xs s
  | false =>
    rcases op with ⟨d, _ | _⟩ | _ | e | _
    case w.true => exact pollClock_setSeq q xs (s.setLines d true)
    all_goals rfl

theorem finish_setSeq (q : Seq) (i : Instr) (xs : List Level) (s : State) :
    finish i xs (s.setSeq q) = finish i xs s := by
  cases i <;> rfl

theorem BusOnly.rstIn (h : BusOnly s t) : t.rstIn = s.rstIn := by
  unfold BusOnly at h
  rw [h]

/-! ## One micro-operation of a command in progress -/

/-- `s` with the sequencer at micro-operation `k` of command `i`, or, when the list has no such micro-operation, with
the command completed. -/
def standing (i : Instr) (k : Nat) (w : Bool) (xs : List Level) (s : State) : State :=
  if k < (opsOf i).length then s.setSeq (.running i k w xs) else finish i xs s

theorem standing_inside (inside : k < (opsOf i).length) : standing i k w xs s = s.setSeq (.running i k w xs) :=
  if_pos inside

theorem standing_pastEnd (pastEnd : (opsOf i).length ≤ k) : standing i k w xs s = finish i xs s :=
  if_neg (Nat.not_lt.mpr pastEnd)

theorem microStep_running (noReset : s.rstIn = false) :
    microStep (s.setSeq (.running i k w xs)) = advance (s.setSeq (.running i k w xs)) :=
  if_neg (Bool.eq_false_iff.mp noReset)

theorem microStep_pastEnd (noReset : s.rstIn = false) (pastEnd : (opsOf i).length ≤ k) :
    microStep (s.setSeq (.running i k w xs)) = finish i xs s := by
  rw [microStep_running noReset, advance, State.setSeq_seq]
  simp only [List.getElem?_eq_none pastEnd, finish_setSeq]

theorem microStep_held (noReset : s.rstIn = false) (inside : k < (opsOf i).length)
    (held : attempt (opsOf i)[k] w xs s = .held t) :
    microStep (standing i k w xs s) = t.setSeq (.running i k true xs) := by
  rw [standing_inside inside, microStep_running noReset, advance, State.setSeq_seq]
  simp only [List.getElem?_eq_getElem inside, attempt_setSeq, held]
  rfl

theorem microStep_done (noReset : s.rstIn = false) (inside : k < (opsOf i).length)
    (done : attempt (opsOf i)[k] w xs s = .done ys t) :
    microStep (standing i k w xs s) = standing i (k + 1) false ys t := by
  rw [standing_inside inside, microStep_running noReset, advance, State.setSeq_seq]
  simp only [List.getElem?_eq_getElem inside, attempt_setSeq, done, Progress.setSeq, finish_setSeq]
  rfl

/-! ## The run of a command -/

/-- A run of what is left of a command is one micro-step for each micro-operation done, and one for the hold. -/
theorem microRun_eq_runOps (ops : List MicroOp) (rest : (opsOf i).drop k = ops) (noReset : s.rstIn = false) :
    ∃ n ≤ ops.length, microRun n (standing i k w xs s) = runOps i ops k w xs s := by
  induction ops generalizing k w xs s with
  | nil => exact ⟨0, Nat.le_refl 0, standing_pastEnd (List.drop_eq_nil_iff.mp rest)⟩
  | cons op ops ih =>
    have inside : k < (opsOf i).length := List.length_lt_of_drop_ne_nil (rest ▸ List.cons_ne_nil op ops)
    rw [List.drop_eq_getElem_cons inside] at rest
    obtain ⟨rfl, left⟩ := List.cons.inj rest
    rw [runOps]
    cases outcome : attempt (opsOf i)[k] w xs s with
    | held t => exact ⟨1, Nat.le_add_left 1 _, microStep_held noReset inside outcome⟩
    | done ys t =>
      obtain ⟨n, bound, run⟩ := ih left ((attempt_done_busOnly outcome).rstIn.trans noReset)
      exact ⟨n + 1, Nat.succ_le_succ bound, by rw [microRun, microStep_done noReset inside outcome, run]⟩

/-! ## How long a list is (R109, R128) -/

/-- Each micro-operation is a line write, a sample or a delay. -/
theorem length_eq_opsTally (ops : List MicroOp) :
    ops.length = (opsTally ops).1 + (opsTally ops).2.1 + (opsTally ops).2.2 := by
  induction ops with
  | nil => rfl
  | cons op ops ih =>
    have one : (opsTally [op]).1 + (opsTally [op]).2.1 + (opsTally [op]).2.2 = 1 := by cases op <;> rfl
    rw [← List.singleton_append, opsTally_append, List.length_append, ih, List.length_singleton]
    simp only [Prod.fst_add, Prod.snd_add]
    omega

/-- The longest list is a scan's, 488 line writes and 72 samples. -/
theorem opsOf_length_le (i : Instr) : (opsOf i).length ≤ 560 := by
  rw [length_eq_opsTally, opsTally_opsOf]
  cases i <;> simp [eventCounts]

/-- A command in progress goes on by micro-steps; from a position past its list's end it takes one to complete. -/
theorem microRun_eq_resumed (noReset : s.rstIn = false) (seq : s.seq = .running i k w xs) :
    ∃ n ≤ 560, microRun n s = runOps i ((opsOf i).drop k) k w xs s := by
  have here : s.setSeq (.running i k w xs) = s := by rw [← seq]; rfl
  obtain inside | pastEnd := Nat.lt_or_ge k (opsOf i).length
  · obtain ⟨n, bound, run⟩ := microRun_eq_runOps (w := w) (xs := xs) _ rfl noReset
    have short : ((opsOf i).drop k).length ≤ (opsOf i).length := (List.drop_sublist k _).length_le
    rw [standing_inside inside, here] at run
    exact ⟨n, bound.trans (short.trans (opsOf_length_le i)), run⟩
  · have completed := microStep_pastEnd (w := w) (xs := xs) noReset pastEnd
    rw [here] at completed
    rw [List.drop_eq_nil_of_le pastEnd]
    exact ⟨1, by decide, completed⟩

/-- A command run whole is one that begins and then goes on. -/
theorem microRun_eq_runCommand (i : Instr) (noReset : s.rstIn = false) :
    ∃ n ≤ 560, microRun n (beginCommand i s) = runCommand i s := by
  obtain ⟨n, bound, run⟩ := microRun_eq_runOps (w := false) (xs := []) (opsOf i) List.drop_zero noReset
  obtain ⟨ops, begins⟩ := opsOf_eq_cons i
  have inside : 0 < (opsOf i).length := by rw [begins]; exact Nat.succ_pos _
  rw [standing_inside inside] at run
  exact ⟨n, bound.trans (opsOf_length_le i), run⟩

/-! ## The two steps -/

/-- Settles O37: a reset and an illegal word are one micro-step, a step with no word none, a command that goes on one
for each attempt, and a command taken one more for its acceptance. -/
theorem microStepsMakeEachStep : Obligations.MicroStepsMakeEachStep := by
  intro s
  obtain ⟨t, ht⟩ := stepNeverStops s
  suffices ∃ n ≤ 561, microRun n s = t by
    obtain ⟨n, bound, run⟩ := this
    exact ⟨n, bound, ht.trans (congrArg _ run.symm)⟩
  obtain ⟨reset, rfl⟩ | ⟨noReset, ⟨i, k, w, xs, seq, rfl⟩ | ⟨seq, ⟨-, rfl⟩ | ⟨word, rest, e, port, illegal, rfl⟩ |
    ⟨word, rest, i, port, decoded, run⟩⟩⟩ := step_cases ht
  · exact ⟨1, by decide, if_pos reset⟩
  · obtain ⟨n, bound, run⟩ := microRun_eq_resumed noReset seq
    exact ⟨n, Nat.le_succ_of_le bound, run⟩
  · exact ⟨0, Nat.zero_le _, rfl⟩
  · exact ⟨1, by decide, by simp [microRun, microStep, noReset, seq, port, illegal]⟩
  · have begun : microStep s = beginCommand i (accept word rest s) := by
      simp [microStep, noReset, seq, port, decoded]
    rw [exec_eq_runCommand (encodeOfDecode word i decoded).1] at run
    obtain rfl := Host.Outcome.next.inj run
    obtain ⟨n, bound, ran⟩ := microRun_eq_runCommand (s := accept word rest s) i noReset
    exact ⟨n + 1, Nat.succ_le_succ bound, by rw [microRun, begun, ran]⟩

end Sys2Proof.Machine
end

section
/-! Proofs of the statements about spec/60_exceptions.md: a clock that the environment holds low (R143), and a scan that
nobody answers (R142). -/

namespace Sys2Proof.Machine

variable {s s' t u : State} {i : Instr} {op : MicroOp} {ops : List MicroOp} {k : Nat} {w : Bool} {xs ys : List Level}

/-! ## Where a held command stands (R34, R53) -/

/-- The state stands waiting at a line write of command `i` that released the clock, and its last poll read 0. -/
def WaitsAtClockRise (i : Instr) (t : State) : Prop :=
  (∃ k d samples, t.seq = .running i k true samples ∧ (opsOf i)[k]? = some (.w d true) ∧
    t.sdaOut = d ∧ t.sclOut = true ∧ t.trace.getLast? = some (.wr d true)) ∧
  0 < t.sclPolls ∧ t.envSclAt (t.sclPolls - 1) = false

/-- A micro-operation held at its first poll is a line write that released the clock. -/
theorem waitsAtClockRise_of_held (current : (opsOf i)[k]? = some op) (ht : attempt op false xs s = .held t) :
    WaitsAtClockRise i (t.setSeq (.running i k true xs)) := by
  obtain ⟨begun, -⟩ | ⟨-, d, rfl, low, rfl⟩ := attempt_held ht
  · cases begun
  · exact ⟨⟨k, d, xs, rfl, current, rfl, rfl, List.getLast?_concat⟩, Nat.succ_pos _, low⟩

/-- After the micro-operation at position `k` stands the rest of the list. -/
theorem drop_succ_of_drop_eq_cons (rest : (opsOf i).drop k = op :: ops) : (opsOf i).drop (k + 1) = ops := by
  rw [← List.tail_drop, rest, List.tail_cons]

/-- A command run from a position at which it does not wait completes, or stands at a clock rise. -/
theorem runOps_waitsAtClockRise (rest : (opsOf i).drop k = ops) (held : (runOps i ops k false xs s).busy = true) :
    WaitsAtClockRise i (runOps i ops k false xs s) :=
  runOps_rule (fun ops k w _ _ => w = false ∧ (opsOf i).drop k = ops)
    (fun r => r.busy = true → WaitsAtClockRise i r)
    (fun _ _ xs u _ busy => by
      rw [finish_busy] at busy
      cases busy)
    (fun _ _ _ _ _ _ _ ⟨begins, rest⟩ ht _ => by
      subst begins
      exact waitsAtClockRise_of_held (List.head?_drop.symm.trans (congrArg List.head? rest)) ht)
    (fun _ _ _ _ _ _ _ _ ⟨_, rest⟩ _ => ⟨rfl, drop_succ_of_drop_eq_cons rest⟩)
    ops k false xs s ⟨rfl, rest⟩ held

/-- Settles O34: the write and its poll are those of the micro-operation at which the run ended
(`runOps_waitsAtClockRise`); up to there only the bus procedures have written, and they write no result and no `CAUSE`
(`runOps_held`). -/
theorem heldCommandStandsAtClockRise : Obligations.HeldCommandStandsAtClockRise := by
  intro i s t wf run busy
  rw [exec_eq_runCommand wf] at run
  obtain rfl := Host.Outcome.next.inj run
  obtain ⟨stands, polled, low⟩ := runOps_waitsAtClockRise List.drop_zero busy
  obtain ⟨n, ys, u, bus, held⟩ := runOps_held busy
  have kept : ResultsKept s (runCommand i s) := by
    rw [runCommand, held]
    exact bus.resultsKept
  obtain ⟨ackr, rxd0, rxd1, list⟩ := kept
  exact ⟨stands, polled, low, runOps_busy_cause busy, ackr, rxd0, rxd1, list⟩

/-! ## The clock leaves no mark (R53, R143) -/

/-- A state with what the clock can move blotted out: its plan, the number of polls, and where the sequencer stands. -/
def State.unclocked (s : State) : State := s.withoutClock.setSeq .idle

theorem eq_of_unclocked_eq (h : s'.unclocked = s.unclocked) :
    s' = { s with envScl := s'.envScl, sclPolls := s'.sclPolls, seq := s'.seq } :=
  congrArg (fun r : State => { r with envScl := s'.envScl, sclPolls := s'.sclPolls, seq := s'.seq }) h

/-- Samples and state at two points of a run that only the clock can have told apart. -/
abbrev SameButClock (p' p : List Level × State) : Prop := p'.1 = p.1 ∧ p'.2.unclocked = p.2.unclocked

/-- A micro-operation whose wait is over reads nothing of the clock. -/
theorem SameButClock.released {p p' : List Level × State} (h : SameButClock p' p) (op : MicroOp) :
    SameButClock (released op p') (released op p) := by
  obtain ⟨xs, s⟩ := p
  obtain ⟨xs', s'⟩ := p'
  obtain ⟨rfl, state⟩ : xs' = xs ∧ s'.unclocked = s.unclocked := h
  rw [eq_of_unclocked_eq state]
  rcases op with ⟨d, _ | _⟩ | _ | e | _ <;> exact ⟨rfl, rfl⟩

theorem SameButClock.releasedAll {p p' : List Level × State} (h : SameButClock p' p) (ops : List MicroOp) :
    SameButClock (releasedAll ops p') (releasedAll ops p) := by
  induction ops generalizing p p' with
  | nil => exact h
  | cons op ops ih => exact ih (h.released op)

theorem finish_unclocked (i : Instr) (xs : List Level) (h : s'.unclocked = s.unclocked) :
    (finish i xs s').withoutClock = (finish i xs s).withoutClock := by
  rw [eq_of_unclocked_eq h]
  cases i <;> rfl

/-- What command `i` leaves once `ops`, the rest of its list, is done, the clock blotted out; if it waits at the first
of them, that one has only its wait left. -/
def endingFrom (i : Instr) (ops : List MicroOp) (w : Bool) (xs : List Level) (s : State) : State :=
  (finish i (releasedAll (if w then ops.tail else ops) (xs, s)).1
    (releasedAll (if w then ops.tail else ops) (xs, s)).2).withoutClock

theorem endingFrom_unclocked (h : s'.unclocked = s.unclocked) : endingFrom i ops w xs s' = endingFrom i ops w xs s := by
  have start : SameButClock (xs, s') (xs, s) := ⟨rfl, h⟩
  obtain ⟨samples, state⟩ := start.releasedAll (if w then ops.tail else ops)
  rw [endingFrom, samples, finish_unclocked i _ state, endingFrom]

/-- A micro-operation done leaves the ending ahead as it was. -/
theorem endingFrom_done (ht : attempt op w xs s = .done ys t) :
    endingFrom i ops false ys t = endingFrom i (op :: ops) w xs s := by
  obtain ⟨rfl, -, rfl, rfl⟩ | ⟨rfl, ⟨d, rfl, -, rfl, rfl⟩ | ⟨d, rfl, rfl, rfl⟩ | ⟨rfl, rfl, rfl⟩ | ⟨e, rfl, rfl, rfl⟩ |
    ⟨rfl, rfl, rfl⟩⟩ := attempt_done ht
  case inl => exact endingFrom_unclocked (w := false) (s := s) rfl
  all_goals rfl

/-- So does a hold. -/
theorem endingFrom_held (ht : attempt op w xs s = .held t) :
    endingFrom i (op :: ops) true xs t = endingFrom i (op :: ops) w xs s := by
  obtain ⟨rfl, -, rfl⟩ | ⟨rfl, d, rfl, -, rfl⟩ := attempt_held ht
  · exact endingFrom_unclocked rfl
  · rfl

/-- The ending ahead of a state: of the command in progress, or, if there is none, the state itself. -/
def State.ending (s : State) : State :=
  match s.seq with
  | .idle => s.withoutClock
  | .running i k w xs => endingFrom i ((opsOf i).drop k) w xs s

theorem State.ending_idle (seq : s.seq = .idle) : s.ending = s.withoutClock := by
  rw [State.ending, seq]

theorem State.ending_running (seq : s.seq = .running i k w xs) :
    s.ending = endingFrom i ((opsOf i).drop k) w xs s := by
  rw [State.ending, seq]

/-- A run, wherever it stops, leaves the ending ahead as it was. -/
theorem runOps_ending (rest : (opsOf i).drop k = ops) : (runOps i ops k w xs s).ending = endingFrom i ops w xs s :=
  runOps_rule (fun ops' k w' ys u => (opsOf i).drop k = ops' ∧ endingFrom i ops' w' ys u = endingFrom i ops w xs s)
    (fun r => r.ending = endingFrom i ops w xs s)
    (fun _ w' ys u ⟨_, same⟩ => by
      rw [State.ending_idle (finish_seq i ys u), ← same]
      cases w' <;> rfl)
    (fun _ _ _ _ _ _ _ ⟨rest, same⟩ ht => by
      rw [State.ending_running rfl, rest, ← same, ← endingFrom_held ht]
      exact endingFrom_unclocked rfl)
    (fun _ _ _ _ _ _ _ _ ⟨rest, same⟩ ht =>
      ⟨drop_succ_of_drop_eq_cons rest, (endingFrom_done ht).trans same⟩)
    ops k w xs s ⟨rest, rfl⟩

/-- A run asserts no reset. -/
theorem runOps_rstIn (i : Instr) (ops : List MicroOp) (k : Nat) (w : Bool) (xs : List Level) (s : State) :
    (runOps i ops k w xs s).rstIn = s.rstIn := by
  obtain ⟨ys, u, bus, completed⟩ | ⟨n, ys, u, bus, held⟩ := runOps_cases i ops k w xs s
  · obtain ⟨-, -, -, -, rstIn, -⟩ := bus.inputsKept.finish i ys
    rw [completed, rstIn]
  · rw [held]
    exact bus.rstIn

/-- A command that completes, after however many holds, leaves the ending that was ahead of it. -/
theorem CompletesAs.withoutClock_eq (h : CompletesAs t u) (noReset : t.rstIn = false) : u.withoutClock = t.ending := by
  obtain ⟨m, run, idle, before⟩ := h
  induction m generalizing t with
  | zero =>
    obtain rfl : t = u := Host.Outcome.next.inj run
    exact (State.ending_idle (busy_eq_false.mp idle)).symm
  | succ m ih =>
    cases seq : t.seq with
    | idle => exact absurd seq (busy_eq_true.mp (before 0 m.succ_pos t rfl))
    | running i k w xs =>
      have goesOn := step_running noReset seq
      rw [core_run_next goesOn] at run
      rw [ih ((runOps_rstIn ..).trans noReset) run fun j hj v hv =>
        before (j + 1) (Nat.succ_lt_succ hj) v (by rwa [core_run_next goesOn])]
      exact (runOps_ending rfl).trans (State.ending_running seq).symm

/-- Settles O36: what a command leaves when it completes was ahead of it from its first micro-operation
(`CompletesAs.withoutClock_eq`, `runOps_ending`), and that ending reads nothing of the clock
(`endingFrom_unclocked`). -/
theorem clockStretchingLeavesNoMark : Obligations.ClockStretchingLeavesNoMark := by
  intro i s s' t t' u u' wf noReset same run run' completes completes'
  rw [exec_eq_runCommand wf] at run run'
  obtain rfl := Host.Outcome.next.inj run
  obtain rfl := Host.Outcome.next.inj run'
  have noReset' : s'.rstIn = false := (congrArg State.rstIn same).trans noReset
  calc u'.withoutClock
    _ = (runCommand i s').ending := completes'.withoutClock_eq ((runOps_rstIn ..).trans noReset')
    _ = endingFrom i (opsOf i) false [] s' := runOps_ending List.drop_zero
    _ = endingFrom i (opsOf i) false [] s := endingFrom_unclocked (congrArg (State.setSeq · .idle) same)
    _ = (runCommand i s).ending := (runOps_ending List.drop_zero).symm
    _ = u.withoutClock := (completes.withoutClock_eq ((runOps_rstIn ..).trans noReset)).symm

/-! ## A scan that nobody answers (R142) -/

/-- A scan ends with the probe of its last candidate (R120). -/
theorem scanOps_ends_with_probe (first : Byte) : ∃ ops c, scanOps first = ops ++ probeOps c := by
  rw [scanOps, scanCandidates, scanCount, List.range_succ, List.map_append, List.flatMap_append, List.map_singleton,
    List.flatMap_singleton]
  exact ⟨_, _, rfl⟩

/-- An `ack` made with no description leaves the error state clear, whatever it sampled (R105). -/
theorem recordAck_zero (v : Level) (s : State) : recordAck 0 v s = s.setError false 0 := by
  cases v <;> rfl

/-- A completed scan leaves the error state clear and both lines released: its last `ack` has no description, and its
last procedure is a stop (R120). -/
theorem exec_scan_quiet {first : Byte} (wf : (Instr.scan first).wf = true) (h : exec (.scan first) s = .next t)
    (idle : t.busy = false) : t.err = false ∧ t.errmsg = 0 ∧ t.sdaOut = true ∧ t.sclOut = true := by
  obtain ⟨ops, c, list⟩ := scanOps_ends_with_probe first
  rw [exec_completed wf h idle, opsOf, list, releasedAll_append, releasedAll_probe, recordAck_zero]
  exact ⟨rfl, rfl, rfl, rfl⟩

/-- Settles O48: `CAUSE` tells how the command ended (`exec_causeTells`), and it was not `NO_DEVICE` before; of a scan
that has completed, the count, the error state, the lines and the number of events are known. -/
theorem noDeviceExactlyWhenNobodyAnswers : Obligations.NoDeviceExactlyWhenNobodyAnswers := by
  intro i s t wf run before
  obtain ⟨kept, told⟩ := exec_causeTells wf run
  have raised : t.cause = .noDevice ↔
      t.busy = false ∧ (∃ first, i = .scan first) ∧ ∀ k < 8, s.sdaAnswer (9 * k) = true := by
    refine ⟨fun noDevice => ?_, fun ⟨idle, nobody⟩ => (told idle).1 nobody⟩
    have idle : t.busy = false := Bool.eq_false_iff.mpr fun busy => before ((kept busy).symm.trans noDevice)
    refine ⟨idle, ?_⟩
    by_contra somebody
    cases noDevice.symm.trans ((told idle).2 somebody)
  refine ⟨raised, fun noDevice => ?_⟩
  obtain ⟨idle, ⟨first, rfl⟩, nobody⟩ := raised.mp noDevice
  have count : t.scancnt = 0 := (exec_scan_count wf run idle).mpr nobody
  obtain ⟨err, errmsg, sda, scl⟩ := exec_scan_quiet wf run idle
  obtain ⟨writes, rest⟩ := Prod.mk.inj (eventCountsOfEachCommand _ s t wf run idle)
  obtain ⟨samples, -⟩ := Prod.mk.inj rest
  exact ⟨count, err, errmsg, sda, scl, writes, samples⟩

end Sys2Proof.Machine
end

section
/-! Proofs of the statements about spec/70_reset_and_hazards.md. -/

namespace Sys2Proof.Machine

variable {s : State}

/-- An asserted reset wins over a command in progress and over a presented word (R161). -/
theorem step_reset (reset : s.rstIn = true) : step s = .next (applyReset s) := if_pos reset

/-- Settles O15: the step is `applyReset`, which takes the block's part of the state from `resetValues` and the two
counts from `s`; `BUSY` is read off `SEQ`. -/
theorem resetFromAnyState : Obligations.ResetFromAnyState := fun s reset =>
  ⟨applyReset s, step_reset reset, rfl, rfl, rfl, rfl, busy_eq_false.mpr rfl, rfl, rfl, rfl, rfl, rfl, rfl⟩

end Sys2Proof.Machine
end

section
/-! SUPPORT. What a command leaves when the clock is released at each of its waits, as its procedures' results put
together: the samples are the environment's answers in order, and the bytes and the responders are read off them. -/

namespace Sys2Proof.Machine

variable {s t : State} {i : Instr} {ys : List Level}

/-! ## Released runs -/

/-- A command none of whose waits is held ends as its list leaves samples and state. -/
theorem exec_of_releasedAll (wf : i.wf = true) (high : ClockReleased s (waitsOf i))
    (left : releasedAll (opsOf i) ([], s) = (ys, t)) : exec i s = .next (finish i ys t) := by
  rw [← waitCount_opsOf] at high
  rw [exec_eq_runCommand wf, runCommand, runOps_released i _ 0 [] s high, left]

/-- Of released waits those after the first `m` are still ahead when `m` polls have been made. -/
theorem clockReleased_later {m n : Nat} (high : ClockReleased s (m + n)) (plan : t.envScl = s.envScl)
    (polled : t.sclPolls = s.sclPolls + m) : ClockReleased t n := by
  intro j hj
  have later : s.sclAnswer (m + j) = true := high (m + j) (Nat.add_lt_add_left hj m)
  rwa [State.sclAnswer, ← Nat.add_assoc, ← polled, State.envSclAt, ← plan] at later

/-! ## Bytes received -/

/-- Eight samples shifted in stand side by side, the first of them in bit 7 (R104, R130). -/
theorem byteOfSamples_eight : ∀ a b c d e f g h : Level, byteOfSamples [a, b, c, d, e, f, g, h] =
    BitVec.ofBool a ++ BitVec.ofBool b ++ BitVec.ofBool c ++ BitVec.ofBool d ++ BitVec.ofBool e ++ BitVec.ofBool f ++
      BitVec.ofBool g ++ BitVec.ofBool h := by decide

/-- The byte received from the `n`-th sample on is the byte answered from the `n`-th answer on. -/
theorem byteAt_answers (s : State) {n m : Nat} (inside : n + 8 ≤ m) :
    byteAt ((List.range m).map s.sdaAnswer) n = answeredByte s n := by
  have window : ((List.range m).drop n).take 8 = List.range' n 8 := by
    refine List.ext_getElem ?_ fun k _ _ => by simp
    simp only [List.length_take, List.length_drop, List.length_range, List.length_range']
    omega
  rw [byteAt, ← List.map_drop, ← List.map_take, window]
  exact byteOfSamples_eight ..

/-! ## The error state -/

theorem ackOk_eq (v : Level) : ackOk v = !v := by cases v <;> rfl

/-- The three outcomes of R105: acknowledged, not acknowledged with a description, and without one. -/
theorem recordAck_eq (e : Byte) (v : Level) (s : State) :
    recordAck e v s = s.setError (v && e != 0) (if v then e else 0) := by
  cases v with
  | false => rfl
  | true =>
    by_cases bare : e = 0
    · rw [bare]; rfl
    · have described : errAfterAck e true = true := bne_iff_ne.mpr bare
      rw [recordAck, errmsgAfterAck, if_pos described, if_pos rfl]
      rfl

/-- With a description the flag follows the sample alone. -/
theorem recordAck_described {e : Byte} (described : e ≠ 0) (v : Level) (s : State) :
    recordAck e v s = s.setError v (if v then e else 0) := by
  rw [recordAck_eq, bne_iff_ne.mpr described, Bool.and_true]

/-! ## The two reads and the register write -/

theorem ackTrace_recordAck (e : Byte) (v : Level) (s : State) (j : Nat) :
    ackTrace (recordAck e v s) j = ackTrace s j := rfl

/-- `WRITE_REG` takes the four samples of its `ack`s, and the last of these leaves the error state (R121). -/
theorem releasedAll_writeReg (addr : Addr7) (reg value : Byte) (s : State) :
    releasedAll (writeRegOps addr reg value) ([], s) =
      ((List.range 4).map s.sdaAnswer,
        recordAck eTerm (s.sdaAnswer 3) (s.afterBus true true 4 40 (writeRegTrace s addr reg value))) := by
  simp only [writeRegOps, releasedAll_append, releasedAll_start, releasedAll_send, releasedAll_ack, releasedAll_stop,
    recordAck_afterBus, recordAck_recordAck, sdaAnswer_recordAck, ackTrace_recordAck, afterBus_afterBus,
    sdaAnswer_afterBus, ackTrace_afterBus]
  rfl

/-- The two frames of a read as far as the third `ack`, which leaves the error state (R122, R123). -/
theorem releasedAll_readOpening (addr : Addr7) (reg : Byte) (s : State) :
    releasedAll (readPhase1Ops addr reg ++ [.delay] ++ readPhase2Ops addr) ([], s) =
      ((List.range 3).map s.sdaAnswer,
        recordAck eAddrR (s.sdaAnswer 2) (s.afterBus true false 3 33 (readOpeningTrace s addr reg))) := by
  simp only [readPhase1Ops, readPhase2Ops, releasedAll_append, releasedAll_start, releasedAll_send, releasedAll_ack,
    releasedAll_stop, releasedAll_delay, recordAck_afterBus, recordAck_recordAck, sdaAnswer_recordAck,
    ackTrace_recordAck, afterBus_afterBus, sdaAnswer_afterBus, ackTrace_afterBus]
  simp only [readOpeningTrace, List.append_assoc]
  rfl

theorem releasedAll_readReg (addr : Addr7) (reg : Byte) (s : State) :
    releasedAll (readRegOps addr reg) ([], s) =
      ((List.range 11).map s.sdaAnswer,
        recordAck eAddrR (s.sdaAnswer 2) (s.afterBus true true 11 44 (readRegTrace s addr reg))) := by
  rw [readRegOps, releasedAll_append, releasedAll_append, releasedAll_append, releasedAll_readOpening]
  simp only [releasedAll_recv, releasedAll_sendNack, releasedAll_stop, recordAck_afterBus, sdaAnswer_recordAck,
    recvTrace_recordAck, afterBus_afterBus, sdaAnswer_afterBus, recvTrace_afterBus]
  rfl

theorem releasedAll_readRegWord (addr : Addr7) (reg : Byte) (s : State) :
    releasedAll (readRegWordOps addr reg) ([], s) =
      ((List.range 19).map s.sdaAnswer,
        recordAck eAddrR (s.sdaAnswer 2) (s.afterBus true true 19 53 (readRegWordTrace s addr reg))) := by
  rw [readRegWordOps, releasedAll_append, releasedAll_append, releasedAll_append, releasedAll_append,
    releasedAll_append, releasedAll_readOpening]
  simp only [releasedAll_recv, releasedAll_sendAck, releasedAll_sendNack, releasedAll_stop, recordAck_afterBus,
    sdaAnswer_recordAck, recvTrace_recordAck, afterBus_afterBus, sdaAnswer_afterBus, recvTrace_afterBus]
  rfl

/-! ## Scans -/

theorem probeTrace_afterBus (s : State) (d d' : Level) (b : Byte) (r p : Nat) (e : List Event) (j : Nat) :
    probeTrace (s.afterBus d d' r p e) b j = probeTrace s b (r + j) := by
  simp only [probeTrace, ackTrace_afterBus, recvTrace_afterBus, Nat.add_assoc]

theorem probeTrace_setError (s : State) (f : Bool) (m : Byte) (c : Byte) (j : Nat) :
    probeTrace (s.setError f m) c j = probeTrace s c j := rfl

/-- One probe or more, each with its nine samples and 22 waits: they leave both lines released and the error state
clear (R120, R128). -/
theorem releasedAll_probes (f : Nat → Byte) (n : Nat) (xs : List Level) (s : State) :
    (releasedAll (((List.range (n + 1)).map f).flatMap probeOps) (xs, s)).2 =
      (s.setError false 0).afterBus true true (9 * (n + 1)) (22 * (n + 1))
        ((List.range (n + 1)).flatMap fun k => probeTrace s (f k) (9 * k)) := by
  induction n with
  | zero =>
    rw [← recordAck_zero (s.sdaAnswer 0)]
    simp [releasedAll_probe, recordAck_afterBus]
  | succ n ih =>
    rw [List.range_succ, List.map_append, List.flatMap_append, releasedAll_append, List.map_singleton,
      List.flatMap_singleton, ← Prod.mk.eta (p := releasedAll _ (xs, s)), ih, releasedAll_probe, recordAck_zero,
      probeTrace_afterBus, probeTrace_setError, afterBus_afterBus, List.flatMap_append, List.flatMap_singleton]
    rfl

theorem respondersFrom_range' (xs : List Level) (f : Nat → Byte) (k n : Nat) :
    respondersFrom xs k ((List.range' k n).map f) =
      ((List.range' k n).filter fun j => !sampleAt xs (9 * j)).map f := by
  induction n generalizing k with
  | zero => rfl
  | succ n ih =>
    rw [List.range'_succ, List.map_cons, respondersFrom, ih, samplesPerCandidate]
    cases answer : sampleAt xs (9 * k) <;> simp [answer]

/-- Of candidates numbered from 0 those respond whose first of nine samples is 0. -/
theorem respondersFrom_range (xs : List Level) (f : Nat → Byte) (n : Nat) :
    respondersFrom xs 0 ((List.range n).map f) =
      ((List.range n).filter fun j => !sampleAt xs (9 * j)).map f := by
  rw [List.range_eq_range', respondersFrom_range']

/-- Eight probes: 72 samples, 176 waits (R120, R128). -/
theorem releasedAll_scan (first : Byte) (s : State) :
    releasedAll (scanOps first) ([], s) =
      ((List.range 72).map s.sdaAnswer, (s.setError false 0).afterBus true true 72 176 (scanTrace s first)) :=
  Prod.ext (releasedAll_probes_samples (scanCandidates first) [] s)
    (releasedAll_probes (scanCandidate first) 7 [] s)

/-- The responders of a released scan are the candidates answered 0 (R120). -/
theorem responders_answers (first : Byte) (s : State) :
    responders first ((List.range 72).map s.sdaAnswer) = answeringCandidates s first := by
  have sampled : ∀ k ∈ List.range 8,
      (!sampleAt ((List.range 72).map s.sdaAnswer) (9 * k)) = !s.sdaAnswer (9 * k) := fun k listed => by
    have inside : 9 * k < 72 := Nat.mul_lt_mul_of_pos_left (List.mem_range.mp listed) (by decide)
    simp [sampleAt, inside]
  rw [responders, scanCandidates, scanCount, respondersFrom_range, List.filter_congr sampled]
  rfl

theorem scanCause_eq (found : List Byte) : scanCause found = if found = [] then .noDevice else .ok := by
  simp [scanCause]

/-- An entry below the count is the responder of that number (R31). -/
theorem scanEntries_getElem (found : List Byte) (base k : Nat) (h : k < 8) :
    (scanEntries found base)[k] = scanEntry found base k := by
  interval_cases k <;> rfl

end Sys2Proof.Machine
end

section
/-! Proofs of the statements about completed commands: the whole state each leaves when the clock is released at its
waits (spec/41_protocol_engine.md sections 3 to 9, spec/42_register_transactions.md sections 3 to 6). -/

namespace Sys2Proof.Machine

/-! ## The primitives -/

/-- Settles O17: the list of `START` is the procedure `start`, and its end writes `CAUSE` and `SEQ`. -/
theorem startCompletes : Obligations.StartCompletes := fun s high =>
  exec_of_releasedAll (i := .start) rfl high (releasedAll_start [] s)

/-- Settles O18: the list of `STOP` is the procedure `stop`, and its end writes `CAUSE` and `SEQ`. -/
theorem stopCompletes : Obligations.StopCompletes := fun s high =>
  exec_of_releasedAll (i := .stop) rfl high (releasedAll_stop [] s)

/-- Settles O19: the list of `SEND` is the procedure `send`, turn by turn from bit 7. -/
theorem sendCompletes : Obligations.SendCompletes := fun s b high =>
  exec_of_releasedAll (i := .send b) rfl high (releasedAll_send [] s b)

/-- Settles O20: the list of `READ` is the procedure `recv`, whose eight samples make the byte stored. -/
theorem readCompletes : Obligations.ReadCompletes := by
  intro s high
  rw [exec_of_releasedAll (i := .read) rfl high (releasedAll_recv [] s), List.nil_append, finish, finishRead,
    byteAt_answers s (by decide)]
  rfl

/-- Settles O21: the list of `ACK` is the procedure `ack`, whose decision has the outcomes `recordAck_eq` writes out. -/
theorem ackCompletes : Obligations.AckCompletes := by
  intro s e high
  rw [exec_of_releasedAll (i := .ack e) rfl high (releasedAll_ack [] s e), recordAck_eq, finish, finishAck, ackOk_eq]
  rfl

/-- Settles O22: the list of `SEND_ACK` is the procedure `send_ack`. -/
theorem sendAckCompletes : Obligations.SendAckCompletes := fun s high =>
  exec_of_releasedAll (i := .sendAck) rfl high (releasedAll_sendAck [] s)

/-- Settles O23: the list of `SEND_NACK` is the procedure `send_nack`. -/
theorem sendNackCompletes : Obligations.SendNackCompletes := fun s high =>
  exec_of_releasedAll (i := .sendNack) rfl high (releasedAll_sendNack [] s)

/-! ## The transactions -/

/-- Settles O24: the probes leave the lines, the error state and the trace (`releasedAll_scan`); count, list and
`CAUSE` are those of the responders, which are the candidates answered 0 (`responders_answers`). -/
theorem scanCompletes : Obligations.ScanCompletes := by
  intro s first legal high
  refine ⟨scanEntries (answeringCandidates s first) s.freeNext, fun k inside counted => ?_, ?_⟩
  · rw [scanEntries_getElem, scanEntry, List.getD_eq_getElem _ _ counted, List.getElem?_eq_getElem counted]
  · have wf : (Instr.scan first).wf = true := decide_eq_true legal
    rw [exec_of_releasedAll (i := .scan first) wf high (releasedAll_scan first s), finish, finishScan,
      responders_answers, scanCause_eq]
    rfl

/-- Settles O25: the error state is as the fourth `ack`, whose descriptor is 4, left it (`releasedAll_writeReg`). -/
theorem writeRegCompletes : Obligations.WriteRegCompletes := by
  intro s addr reg value high
  rw [exec_of_releasedAll (i := .writeReg addr reg value) rfl high (releasedAll_writeReg addr reg value s),
    recordAck_described (by decide)]
  rfl

/-- Settles O26: the byte stored is that of the eight samples after three `ack`s, the third of which, with descriptor
5, leaves the error state (`releasedAll_readReg`). -/
theorem readRegCompletes : Obligations.ReadRegCompletes := by
  intro s addr reg high
  rw [exec_of_releasedAll (i := .readReg addr reg) rfl high (releasedAll_readReg addr reg s),
    recordAck_described (by decide), finish, finishReadReg, byteAt_answers s (by decide)]
  rfl

/-- Settles O27: as `READ_REG`, with a second byte of the eight samples after those of the first. -/
theorem readRegWordCompletes : Obligations.ReadRegWordCompletes := by
  intro s addr reg high
  rw [exec_of_releasedAll (i := .readRegWord addr reg) rfl high (releasedAll_readRegWord addr reg s),
    recordAck_described (by decide), finish, finishReadRegWord, byteAt_answers s (by decide),
    byteAt_answers s (by decide)]
  rfl

end Sys2Proof.Machine
end

section
/-! Proofs of the frames: what the protocol engine's commands and the register transactions leave alone, whether they
complete or are held (spec/41_protocol_engine.md sections 3 to 9, spec/42_register_transactions.md sections 4 to 6). -/

namespace Sys2Proof.Machine

variable {s t : State} {i : Instr} {op : MicroOp} {w : Bool} {xs ys : List Level}

/-! ## What every command keeps, and who may write a result -/

/-- No command touches the host's and the environment's inputs, and none takes back what is on the bus. -/
theorem exec_keeps (wf : i.wf = true) (run : exec i s = .next t) : InputsKept s t ∧ TraceGrows s t := by
  rw [exec_eq_runCommand wf] at run
  obtain rfl := Host.Outcome.next.inj run
  refine ⟨?_, runOps_traceGrows i _ 0 false [] s⟩
  rw [runCommand]
  obtain ⟨ys, u, bus, completed⟩ | ⟨n, ys, u, bus, held⟩ := runOps_cases i (opsOf i) 0 false [] s
  · rw [completed]
    exact bus.inputsKept.finish i ys
  · rw [held]
    exact bus.inputsKept

/-- A command other than `SCAN` writes 0 to `CAUSE` when it completes (R36). -/
theorem exec_causeAtCompletion (wf : i.wf = true) (notScan : ∀ first, i ≠ .scan first) (run : exec i s = .next t) :
    CauseAtCompletion s t .ok := by
  obtain ⟨kept, told⟩ := exec_causeTells wf run
  cases busy : t.busy with
  | true => rw [CauseAtCompletion, busy]; exact kept busy
  | false => rw [CauseAtCompletion, busy]; exact (told busy).2 fun ⟨⟨first, scan⟩, _⟩ => notScan first scan

theorem exec_ackr_kept (run : exec i s = .next t) (other : ∀ e, i ≠ .ack e) : t.ackr = s.ackr := by
  by_contra written
  obtain ⟨-, e, ack⟩ := (resultLatchesHaveTheirOwnWriters i s t run).1 written
  exact other e ack

theorem exec_rxd0_kept (run : exec i s = .next t)
    (other : i ≠ .read ∧ (∀ a r, i ≠ .readReg a r) ∧ ∀ a r, i ≠ .readRegWord a r) : t.rxd0 = s.rxd0 := by
  by_contra written
  obtain ⟨notRead, notReg, notWord⟩ := other
  obtain ⟨-, read | ⟨a, r, reg⟩ | ⟨a, r, word⟩⟩ := (resultLatchesHaveTheirOwnWriters i s t run).2.1 written
  · exact notRead read
  · exact notReg a r reg
  · exact notWord a r word

theorem exec_rxd1_kept (run : exec i s = .next t) (other : ∀ a r, i ≠ .readRegWord a r) : t.rxd1 = s.rxd1 := by
  by_contra written
  obtain ⟨-, a, r, word⟩ := (resultLatchesHaveTheirOwnWriters i s t run).2.2.1 written
  exact other a r word

theorem exec_scanKept (run : exec i s = .next t) (other : ∀ first, i ≠ .scan first) : ScanKept s t := by
  by_contra written
  obtain ⟨-, first, scan⟩ := (resultLatchesHaveTheirOwnWriters i s t run).2.2.2 written
  exact other first scan

/-- A held command has written no result (R35). -/
theorem exec_results_of_busy (run : exec i s = .next t) (busy : t.busy = true) : ResultsKept s t := by
  obtain kept | ⟨ys, u, -, rfl⟩ := exec_results run
  · exact kept
  · rw [finish_busy] at busy
    cases busy

/-! ## Samples -/

theorem attempt_done_sdaReads (h : attempt op w xs s = .done ys t) (noSample : op ≠ .s) :
    t.sdaReads = s.sdaReads := by
  obtain ⟨-, -, -, rfl⟩ | ⟨-, ⟨d, -, -, -, rfl⟩ | ⟨d, -, -, rfl⟩ | ⟨sample, -, -⟩ | ⟨e, -, -, rfl⟩ | ⟨-, -, rfl⟩⟩ :=
    attempt_done h
  case inr.inr.inr.inl => exact absurd sample noSample
  all_goals rfl

/-- A list with no sample in it reads nothing of the data line. -/
theorem runOps_sdaReads (i : Instr) (ops : List MicroOp) (k : Nat) (w : Bool) (xs : List Level) (s : State)
    (noSample : .s ∉ ops) : (runOps i ops k w xs s).sdaReads = s.sdaReads :=
  runOps_rule (fun ops _ _ _ t => .s ∉ ops ∧ t.sdaReads = s.sdaReads) (fun r => r.sdaReads = s.sdaReads)
    (fun _ _ _ _ ⟨_, kept⟩ => by cases i <;> exact kept)
    (fun _ _ _ _ _ _ _ ⟨_, kept⟩ ht => by
      obtain ⟨-, -, rfl⟩ | ⟨-, d, -, -, rfl⟩ := attempt_held ht <;> exact kept)
    (fun op _ _ _ _ _ _ _ ⟨noSample, kept⟩ ht =>
      ⟨fun later => noSample (List.mem_cons_of_mem op later),
        (attempt_done_sdaReads ht fun sample => noSample (sample ▸ List.mem_cons_self)).trans kept⟩)
    ops k w xs s ⟨noSample, rfl⟩

/-- The five commands without a sample. -/
abbrev Unsampled (i : Instr) : Prop :=
  i = .start ∨ i = .stop ∨ (∃ b, i = .send b) ∨ i = .sendAck ∨ i = .sendNack

theorem sample_notMem_opsOf (h : Unsampled i) : .s ∉ opsOf i := by
  obtain rfl | rfl | ⟨b, rfl⟩ | rfl | rfl := h
  case inr.inr.inl => simp [opsOf, sendOps, sendBitOps]
  all_goals decide

/-- None of the five is a `SCAN`, which alone can be ill formed, has an `ack`, or is `READ`. -/
theorem Unsampled.wf_noAck_notRead (h : Unsampled i) : i.wf = true ∧ hasAck i = false ∧ i ≠ .read := by
  obtain rfl | rfl | ⟨b, rfl⟩ | rfl | rfl := h <;> exact ⟨rfl, rfl, nofun⟩

theorem ne_of_hasAck {j : Instr} (without : hasAck i = false) (withAck : hasAck j = true) : i ≠ j := by
  rintro rfl
  rw [without] at withAck
  cases withAck

/-! ## The frames -/

/-- Settles O28: the list of such a command has no `ack` and no sample in it (`exec_errorKept`, `runOps_sdaReads`), and
it is none of those named for a result. -/
theorem primitivesWithoutSampleFrame : Obligations.PrimitivesWithoutSampleFrame := by
  intro i s t unsampled run
  obtain ⟨wf, noAck, notRead⟩ := Unsampled.wf_noAck_notRead unsampled
  have other {j : Instr} (withAck : hasAck j = true) : i ≠ j := ne_of_hasAck noAck withAck
  obtain ⟨inputs, trace⟩ := exec_keeps wf run
  refine ⟨inputs, exec_errorKept run noAck, exec_scanKept run fun _ => other rfl, trace,
    exec_causeAtCompletion wf (fun _ => other rfl) run, exec_ackr_kept run fun _ => other rfl,
    exec_rxd0_kept run ⟨notRead, fun _ _ => other rfl, fun _ _ => other rfl⟩,
    exec_rxd1_kept run fun _ _ => other rfl, ?_⟩
  rw [exec_eq_runCommand wf] at run
  obtain rfl := Host.Outcome.next.inj run
  exact runOps_sdaReads i _ 0 false [] s (sample_notMem_opsOf unsampled)

/-- Settles O29: `READ` has no `ack` in its list, and of the results it is named for `RXD0` alone. -/
theorem readFrame : Obligations.ReadFrame := by
  intro s t run
  obtain ⟨inputs, trace⟩ := exec_keeps rfl run
  refine ⟨inputs, exec_errorKept run rfl, exec_scanKept run (by simp), trace, exec_causeAtCompletion rfl (by simp) run,
    exec_ackr_kept run (by simp), exec_rxd1_kept run (by simp), fun busy => ?_⟩
  obtain ⟨-, rxd0, -⟩ := exec_results_of_busy run busy
  exact rxd0

/-- `ACK` can be held at its one wait only, which comes before its decision (R105). -/
theorem exec_ack_errorKept {e : Byte} (run : exec (.ack e) s = .next t) (busy : t.busy = true) : ErrorKept s t := by
  have low : s.sclAnswer 0 = false := Bool.eq_false_iff.mpr fun high => by
    have released : ClockReleased s 1 := fun j hj => Nat.lt_one_iff.mp hj ▸ high
    rw [(completesExactlyWhenClockReleased _ s t rfl run).mpr released] at busy
    cases busy
  obtain rfl := Host.Outcome.next.inj run
  have stops : attempt (.w true true) false [] (s.setLines true false) =
      .held ((s.setLines true false).setLines true true).addPoll := by
    exact pollClock_low ((sclLevel_setLines_high (s := s.setLines true false) true).trans low)
  rw [runCommand, opsOf, ackOps, runOps, attempt_low]
  simp only [runOps, stops]
  exact ⟨rfl, rfl⟩

/-- Settles O30: of the results `ACK` is named for `ACKR` alone, and a hold comes before its decision
(`exec_ack_errorKept`). -/
theorem ackFrame : Obligations.AckFrame := by
  intro s t e run
  obtain ⟨inputs, trace⟩ := exec_keeps rfl run
  refine ⟨inputs, exec_scanKept run (by simp), trace, exec_causeAtCompletion rfl (by simp) run,
    exec_rxd0_kept run (by simp), exec_rxd1_kept run (by simp), fun busy => ?_⟩
  obtain ⟨ackr, -⟩ := exec_results_of_busy run busy
  exact ⟨exec_ack_errorKept run busy, ackr⟩

/-- Settles O32: the three transactions are named for no result but the received bytes, `WRITE_REG` for none and
`READ_REG` for the first. -/
theorem registerTransactionsFrame : Obligations.RegisterTransactionsFrame := by
  intro i s t transaction run
  obtain ⟨wf, notScan, notAck⟩ : i.wf = true ∧ (∀ first, i ≠ .scan first) ∧ ∀ e, i ≠ .ack e := by
    obtain ⟨a, r, v, rfl⟩ | ⟨a, r, rfl⟩ | ⟨a, r, rfl⟩ := transaction <;> simp [Instr.wf]
  obtain ⟨inputs, trace⟩ := exec_keeps wf run
  refine ⟨inputs, exec_scanKept run notScan, trace, exec_causeAtCompletion wf notScan run, exec_ackr_kept run notAck,
    fun busy => ?_, ?_, ?_⟩
  · obtain ⟨-, rxd0, rxd1, -⟩ := exec_results_of_busy run busy
    exact ⟨rxd0, rxd1⟩
  · rintro ⟨a, r, v, rfl⟩
    exact ⟨exec_rxd0_kept run (by simp), exec_rxd1_kept run (by simp)⟩
  · rintro ⟨a, r, rfl⟩
    exact exec_rxd1_kept run (by simp)

end Sys2Proof.Machine
end

section
/-! Proofs of the statements about an illegal word, the printed words, what a reset leaves of the outside world, and two
commands one after the other (spec/30_encoding.md, spec/41_protocol_engine.md, spec/70_reset_and_hazards.md). -/

namespace Sys2Proof.Machine

variable {s t : State}

/-- Settles O4: each word is evaluated to what is printed beside it. -/
theorem printedWordsDecodeAsPrinted : Obligations.PrintedWordsDecodeAsPrinted :=
  ⟨rfl, rfl, rfl, rfl, rfl, rfl, rfl, rfl, rfl, rfl, rfl, rfl, rfl, rfl, rfl, rfl, rfl⟩

/-- Settles O10: the step accepts the word and completes it as illegal, which writes `CAUSE`; `SEQ` was idle before. -/
theorem illegalWordWritesOnlyCause : Obligations.IllegalWordWritesOnlyCause := by
  intro s w rest e noReset idle presented illegal
  have taken : step s = .next (illegalCommand (accept w rest s)) := by
    simp [step, noReset, idle, presented, illegal]
  rw [taken, illegalCommand_eq, accept_eq, idle]

/-- Settles O16: the step is `applyReset`, which takes the plans from the state it resets. -/
theorem resetLeavesTheOutsideAlone : Obligations.ResetLeavesTheOutsideAlone := by
  intro s t reset run
  rw [step_reset reset] at run
  obtain rfl := Host.Outcome.next.inj run
  exact ⟨rfl, rfl, rfl, rfl, rfl⟩

/-- A byte is its bits side by side. -/
theorem byte_eq_bits : ∀ b : Byte,
    BitVec.ofBool (b.getLsbD 7) ++ BitVec.ofBool (b.getLsbD 6) ++ BitVec.ofBool (b.getLsbD 5) ++
      BitVec.ofBool (b.getLsbD 4) ++ BitVec.ofBool (b.getLsbD 3) ++ BitVec.ofBool (b.getLsbD 2) ++
      BitVec.ofBool (b.getLsbD 1) ++ BitVec.ofBool (b.getLsbD 0) = b := by decide

/-- Answers that repeat the bits of a byte, bit 7 first, make that byte. -/
theorem answeredByte_echo {b : Byte} (echo : ∀ n < 8, s.sdaAnswer n = b.getLsbD (7 - n)) : answeredByte s 0 = b := by
  simp only [answeredByte, Nat.zero_add, echo, Nat.reduceLT, Nat.reduceSub]
  exact byte_eq_bits b

/-- Settles O49: `SEND` takes no sample, so that `READ` is answered from the first answer on. -/
theorem loopbackReproducesTheByte : Obligations.LoopbackReproducesTheByte := by
  intro s b high echo
  have sent := sendCompletes s b fun j hj => high j (by omega)
  exact ⟨_, _, sent, readCompletes _ (clockReleased_later (m := 8) high rfl rfl), rfl, answeredByte_echo echo⟩

/-- Settles O50: `STOP` begins where `START` ended, with its own two waits still ahead. -/
theorem startThenStopEndsReleased : Obligations.StartThenStopEndsReleased := by
  intro s high
  have started := startCompletes s fun j hj => high j (by omega)
  refine ⟨_, _, started, stopCompletes _ (clockReleased_later (m := 2) high rfl rfl), rfl, rfl, rfl, ?_⟩
  exact List.append_assoc ..

end Sys2Proof.Machine
end
